-- ==== Sys2Proof/Word.lean ====
section
/-! DEFINITION. The two word types of the machine (00_scope.md R9, 10_state.md R30): a byte and a 16-bit word. -/

namespace Sys2Proof

/-- 8 bits: a register, a memory byte, a port number. -/
abbrev Byte := BitVec 8

/-- 16 bits: a register pair, SP, pc, a memory address. -/
abbrev Word := BitVec 16

end Sys2Proof
end

