-- ==== Sys2Proof/Config.lean ====
section
/-! DEFINITION. What an implementation fixes (00_scope.md R7) and the one free value (R8 `INPUT`). -/

namespace Sys2Proof

/-- One port transaction (20_memory.md R75): an `input` with the byte the board answered, or an `output`. -/
inductive PortEvent where
  | input (port value : Byte)
  | output (port value : Byte)
  deriving DecidableEq, Repr

namespace Config

/-- Number of byte locations (20_memory.md R70). -/
def memorySize : Nat := 65536

/-- What an address that memory does not list reads as: the built-in board's bytes "are 0x00 unless an image
is supplied" (70_reset_and_hazards.md R421; log 7). -/
def unlistedByte : Byte := 0

/-- The most bytes a trap hook may hand back (30_encoding.md R113). -/
def maxReplacement : Nat := 4

/-- FREE VALUE (log 6): the byte input port `port` answers after the port transactions `history` (oldest
first). It has no body: a claim about it holds for every board (20_memory.md R75, D13). -/
opaque input (port : Byte) (history : List PortEvent) : Byte

end Config

end Sys2Proof
end

