-- ==== Sys2Proof/Syntax.lean ====
section
/-! DEFINITION. The instruction set as syntax: the operand kinds of 30_encoding.md R102-R106 and one constructor per
row of opcode_table.json (R107). -/

namespace Sys2Proof

/-- The seven 8-bit registers (R102; code 110 is the memory operand M, which is no register). -/
inductive Reg where
  | b | c | d | e | h | l | a
  deriving DecidableEq, Repr

/-- The pairs of LXI, INX, DCX and DAD (R103). -/
inductive Pair where
  | bc | de | hl | sp
  deriving DecidableEq, Repr

/-- The pairs of PUSH and POP other than PSW (R103). -/
inductive StackPair where
  | bc | de | hl
  deriving DecidableEq, Repr

/-- The pairs of LDAX and STAX (R103). -/
inductive IndexPair where
  | bc | de
  deriving DecidableEq, Repr

/-- The eight conditions (R104). -/
inductive Cond where
  | nz | z | nc | c | po | pe | p | m
  deriving DecidableEq, Repr

/-- The eight operations of the accumulator group, in the order of the field ooo (R107). -/
inductive AluOp where
  | add | adc | sub | sbb | ana | xra | ora | cmp
  deriving DecidableEq, Repr

/-- The instructions: one constructor per row of opcode_table.json, the rows with operand bytes first, each part
in the table's order (Lean's compiler numbers constructors with fields by at most 244 tags). The twelve `undocumented`
rows are byte values that are no instruction of the documented set (R108). -/
inductive Instr where
  | lxiB (data16 : Word)
  | mviB (data8 : Byte)
  | mviC (data8 : Byte)
  | lxiD (data16 : Word)
  | mviD (data8 : Byte)
  | mviE (data8 : Byte)
  | lxiH (data16 : Word)
  | shld (addr16 : Word)
  | mviH (data8 : Byte)
  | lhld (addr16 : Word)
  | mviL (data8 : Byte)
  | lxiSp (data16 : Word)
  | sta (addr16 : Word)
  | mviM (data8 : Byte)
  | lda (addr16 : Word)
  | mviA (data8 : Byte)
  | jnz (addr16 : Word)
  | jmp (addr16 : Word)
  | cnz (addr16 : Word)
  | adi (data8 : Byte)
  | jz (addr16 : Word)
  | cz (addr16 : Word)
  | call (addr16 : Word)
  | aci (data8 : Byte)
  | jnc (addr16 : Word)
  | outPort (port8 : Byte)
  | cnc (addr16 : Word)
  | sui (data8 : Byte)
  | jc (addr16 : Word)
  | inPort (port8 : Byte)
  | cc (addr16 : Word)
  | sbi (data8 : Byte)
  | jpo (addr16 : Word)
  | cpo (addr16 : Word)
  | ani (data8 : Byte)
  | jpe (addr16 : Word)
  | cpe (addr16 : Word)
  | xri (data8 : Byte)
  | jp (addr16 : Word)
  | cp (addr16 : Word)
  | ori (data8 : Byte)
  | jm (addr16 : Word)
  | cm (addr16 : Word)
  | cpi (data8 : Byte)
  | nop
  | staxB
  | inxB
  | inrB
  | dcrB
  | rlc
  | undocumented08
  | dadB
  | ldaxB
  | dcxB
  | inrC
  | dcrC
  | rrc
  | undocumented10
  | staxD
  | inxD
  | inrD
  | dcrD
  | ral
  | undocumented18
  | dadD
  | ldaxD
  | dcxD
  | inrE
  | dcrE
  | rar
  | undocumented20
  | inxH
  | inrH
  | dcrH
  | daa
  | undocumented28
  | dadH
  | dcxH
  | inrL
  | dcrL
  | cma
  | undocumented30
  | inxSp
  | inrM
  | dcrM
  | stc
  | undocumented38
  | dadSp
  | dcxSp
  | inrA
  | dcrA
  | cmc
  | movBB
  | movBC
  | movBD
  | movBE
  | movBH
  | movBL
  | movBM
  | movBA
  | movCB
  | movCC
  | movCD
  | movCE
  | movCH
  | movCL
  | movCM
  | movCA
  | movDB
  | movDC
  | movDD
  | movDE
  | movDH
  | movDL
  | movDM
  | movDA
  | movEB
  | movEC
  | movED
  | movEE
  | movEH
  | movEL
  | movEM
  | movEA
  | movHB
  | movHC
  | movHD
  | movHE
  | movHH
  | movHL
  | movHM
  | movHA
  | movLB
  | movLC
  | movLD
  | movLE
  | movLH
  | movLL
  | movLM
  | movLA
  | movMB
  | movMC
  | movMD
  | movME
  | movMH
  | movML
  | hlt
  | movMA
  | movAB
  | movAC
  | movAD
  | movAE
  | movAH
  | movAL
  | movAM
  | movAA
  | addB
  | addC
  | addD
  | addE
  | addH
  | addL
  | addM
  | addA
  | adcB
  | adcC
  | adcD
  | adcE
  | adcH
  | adcL
  | adcM
  | adcA
  | subB
  | subC
  | subD
  | subE
  | subH
  | subL
  | subM
  | subA
  | sbbB
  | sbbC
  | sbbD
  | sbbE
  | sbbH
  | sbbL
  | sbbM
  | sbbA
  | anaB
  | anaC
  | anaD
  | anaE
  | anaH
  | anaL
  | anaM
  | anaA
  | xraB
  | xraC
  | xraD
  | xraE
  | xraH
  | xraL
  | xraM
  | xraA
  | oraB
  | oraC
  | oraD
  | oraE
  | oraH
  | oraL
  | oraM
  | oraA
  | cmpB
  | cmpC
  | cmpD
  | cmpE
  | cmpH
  | cmpL
  | cmpM
  | cmpA
  | rnz
  | popB
  | pushB
  | rst0
  | rz
  | ret
  | undocumentedCB
  | rst1
  | rnc
  | popD
  | pushD
  | rst2
  | rc
  | undocumentedD9
  | undocumentedDD
  | rst3
  | rpo
  | popH
  | xthl
  | pushH
  | rst4
  | rpe
  | pchl
  | xchg
  | undocumentedED
  | rst5
  | rp
  | popPsw
  | di
  | pushPsw
  | rst6
  | rm
  | sphl
  | ei
  | undocumentedFD
  | rst7
  deriving DecidableEq, Repr

end Sys2Proof
end

