-- ==== Sys2Proof/WellFormed.lean ====
section
/-! DEFINITION. Which terms a documented machine can meet: documented instructions (30_encoding.md R108), memory images
that fit (70_reset_and_hazards.md R421) and trap replacements of at most four bytes (R113). The operand types of `Instr` already
admit exactly the values of the encoding (R109). -/

namespace Sys2Proof

/-- `true` for the 244 documented instructions, `false` for the twelve undocumented values (R107, R108). -/
def Instr.documented : Instr → Bool
  | .undocumented08 | .undocumented10 | .undocumented18 | .undocumented20
  | .undocumented28 | .undocumented30 | .undocumented38 | .undocumentedCB
  | .undocumentedD9 | .undocumentedDD | .undocumentedED | .undocumentedFD => false
  | _ => true

/-- An image is a byte buffer "of length n <= 65536" (R421). -/
def imageFits (image : List Byte) : Bool := decide (image.length ≤ Config.memorySize)

/-- A replacement is "a sequence of 1 to 4 bytes" (R113); the empty list is the hook's answer "no replacement". -/
def replacementFits (bytes : List Byte) : Bool := decide (bytes.length ≤ Config.maxReplacement)

end Sys2Proof
end

