-- ==== Sys2Proof/Decode.lean ====
section
/-! DEFINITION. Decoding bytes to instructions by the fields of 30_encoding.md R101-R108, and the encoder, written
separately from the rows of opcode_table.json. Also the byte-order helpers (R106, 20_memory.md R73). -/

namespace Sys2Proof

/-! ## Byte order (00_scope.md R9: concat(hi, lo) = hi * 256 + lo) -/

/-- concat(hi, lo) of R9. -/
def concat (hi lo : Byte) : Word := hi ++ lo

/-- v[7:0] of a word. -/
def lowByte (w : Word) : Byte := w.extractLsb' 0 8

/-- v[15:8] of a word. -/
def highByte (w : Word) : Byte := w.extractLsb' 8 8

/-! ## Families: from the operand fields to the row of the opcode table -/

/-- MOV d,s (R140). -/
def Instr.movRegReg : Reg → Reg → Instr
  | .b, .b => .movBB | .b, .c => .movBC | .b, .d => .movBD | .b, .e => .movBE | .b, .h => .movBH | .b, .l => .movBL | .b, .a => .movBA
  | .c, .b => .movCB | .c, .c => .movCC | .c, .d => .movCD | .c, .e => .movCE | .c, .h => .movCH | .c, .l => .movCL | .c, .a => .movCA
  | .d, .b => .movDB | .d, .c => .movDC | .d, .d => .movDD | .d, .e => .movDE | .d, .h => .movDH | .d, .l => .movDL | .d, .a => .movDA
  | .e, .b => .movEB | .e, .c => .movEC | .e, .d => .movED | .e, .e => .movEE | .e, .h => .movEH | .e, .l => .movEL | .e, .a => .movEA
  | .h, .b => .movHB | .h, .c => .movHC | .h, .d => .movHD | .h, .e => .movHE | .h, .h => .movHH | .h, .l => .movHL | .h, .a => .movHA
  | .l, .b => .movLB | .l, .c => .movLC | .l, .d => .movLD | .l, .e => .movLE | .l, .h => .movLH | .l, .l => .movLL | .l, .a => .movLA
  | .a, .b => .movAB | .a, .c => .movAC | .a, .d => .movAD | .a, .e => .movAE | .a, .h => .movAH | .a, .l => .movAL | .a, .a => .movAA

/-- MOV d,M (R141). -/
def Instr.movRegMem : Reg → Instr
  | .b => .movBM | .c => .movCM | .d => .movDM | .e => .movEM | .h => .movHM | .l => .movLM | .a => .movAM

/-- MOV M,s (R142). -/
def Instr.movMemReg : Reg → Instr
  | .b => .movMB | .c => .movMC | .d => .movMD | .e => .movME | .h => .movMH | .l => .movML | .a => .movMA

/-- MVI d,data (R143). -/
def Instr.mviReg : Reg → Byte → Instr
  | .b, v => .mviB v | .c, v => .mviC v | .d, v => .mviD v | .e, v => .mviE v | .h, v => .mviH v | .l, v => .mviL v | .a, v => .mviA v

/-- LXI p,data16 (R145). -/
def Instr.lxi : Pair → Word → Instr
  | .bc, w => .lxiB w | .de, w => .lxiD w | .hl, w => .lxiH w | .sp, w => .lxiSp w

/-- INX p (R201). -/
def Instr.inx : Pair → Instr
  | .bc => .inxB | .de => .inxD | .hl => .inxH | .sp => .inxSp

/-- DCX p (R202). -/
def Instr.dcx : Pair → Instr
  | .bc => .dcxB | .de => .dcxD | .hl => .dcxH | .sp => .dcxSp

/-- DAD p (R203). -/
def Instr.dad : Pair → Instr
  | .bc => .dadB | .de => .dadD | .hl => .dadH | .sp => .dadSp

/-- LDAX p (R150). -/
def Instr.ldax : IndexPair → Instr
  | .bc => .ldaxB | .de => .ldaxD

/-- STAX p (R151). -/
def Instr.stax : IndexPair → Instr
  | .bc => .staxB | .de => .staxD

/-- PUSH p for BC, DE, HL (R273). -/
def Instr.push : StackPair → Instr
  | .bc => .pushB | .de => .pushD | .hl => .pushH

/-- POP p for BC, DE, HL (R275). -/
def Instr.pop : StackPair → Instr
  | .bc => .popB | .de => .popD | .hl => .popH

/-- INR r (R197). -/
def Instr.inrReg : Reg → Instr
  | .b => .inrB | .c => .inrC | .d => .inrD | .e => .inrE | .h => .inrH | .l => .inrL | .a => .inrA

/-- DCR r (R199). -/
def Instr.dcrReg : Reg → Instr
  | .b => .dcrB | .c => .dcrC | .d => .dcrD | .e => .dcrE | .h => .dcrH | .l => .dcrL | .a => .dcrA

/-- The accumulator group with a register (R185 ... R240). -/
def Instr.aluReg : AluOp → Reg → Instr
  | .add, .b => .addB | .add, .c => .addC | .add, .d => .addD | .add, .e => .addE | .add, .h => .addH | .add, .l => .addL | .add, .a => .addA
  | .adc, .b => .adcB | .adc, .c => .adcC | .adc, .d => .adcD | .adc, .e => .adcE | .adc, .h => .adcH | .adc, .l => .adcL | .adc, .a => .adcA
  | .sub, .b => .subB | .sub, .c => .subC | .sub, .d => .subD | .sub, .e => .subE | .sub, .h => .subH | .sub, .l => .subL | .sub, .a => .subA
  | .sbb, .b => .sbbB | .sbb, .c => .sbbC | .sbb, .d => .sbbD | .sbb, .e => .sbbE | .sbb, .h => .sbbH | .sbb, .l => .sbbL | .sbb, .a => .sbbA
  | .ana, .b => .anaB | .ana, .c => .anaC | .ana, .d => .anaD | .ana, .e => .anaE | .ana, .h => .anaH | .ana, .l => .anaL | .ana, .a => .anaA
  | .xra, .b => .xraB | .xra, .c => .xraC | .xra, .d => .xraD | .xra, .e => .xraE | .xra, .h => .xraH | .xra, .l => .xraL | .xra, .a => .xraA
  | .ora, .b => .oraB | .ora, .c => .oraC | .ora, .d => .oraD | .ora, .e => .oraE | .ora, .h => .oraH | .ora, .l => .oraL | .ora, .a => .oraA
  | .cmp, .b => .cmpB | .cmp, .c => .cmpC | .cmp, .d => .cmpD | .cmp, .e => .cmpE | .cmp, .h => .cmpH | .cmp, .l => .cmpL | .cmp, .a => .cmpA

/-- The accumulator group with M (R186 ... R241). -/
def Instr.aluMem : AluOp → Instr
  | .add => .addM | .adc => .adcM | .sub => .subM | .sbb => .sbbM | .ana => .anaM | .xra => .xraM | .ora => .oraM | .cmp => .cmpM

/-- The accumulator group with an immediate (R187 ... R242). -/
def Instr.aluImm : AluOp → Byte → Instr
  | .add, v => .adi v | .adc, v => .aci v | .sub, v => .sui v | .sbb, v => .sbi v | .ana, v => .ani v | .xra, v => .xri v | .ora, v => .ori v | .cmp, v => .cpi v

/-- Jcc addr (R294-R301). -/
def Instr.jumpIf : Cond → Word → Instr
  | .nz, w => .jnz w | .z, w => .jz w | .nc, w => .jnc w | .c, w => .jc w | .po, w => .jpo w | .pe, w => .jpe w | .p, w => .jp w | .m, w => .jm w

/-- Ccc addr (R303-R310). -/
def Instr.callIf : Cond → Word → Instr
  | .nz, w => .cnz w | .z, w => .cz w | .nc, w => .cnc w | .c, w => .cc w | .po, w => .cpo w | .pe, w => .cpe w | .p, w => .cp w | .m, w => .cm w

/-- Rcc (R312-R319). -/
def Instr.retIf : Cond → Instr
  | .nz => .rnz | .z => .rz | .nc => .rnc | .c => .rc | .po => .rpo | .pe => .rpe | .p => .rp | .m => .rm

/-- RST n, n = 0..7 (R320). -/
def Instr.rst : BitVec 3 → Instr
  | 0#3 => .rst0 | 1#3 => .rst1 | 2#3 => .rst2 | 3#3 => .rst3 | 4#3 => .rst4 | 5#3 => .rst5 | 6#3 => .rst6 | 7#3 => .rst7

/-! ## Fields -/

/-- The field ddd or sss (R102); `none` is code 110, the memory operand M. -/
def regOfCode (code : BitVec 3) : Option Reg :=
  match code.toNat with
  | 0 => some .b | 1 => some .c | 2 => some .d | 3 => some .e | 4 => some .h | 5 => some .l | 6 => none | _ => some .a

/-- The field pp for LXI, INX, DCX and DAD (R103). -/
def pairOfCode (code : BitVec 2) : Pair :=
  match code.toNat with
  | 0 => .bc | 1 => .de | 2 => .hl | _ => .sp

/-- The field pp for PUSH and POP (R103); `none` is code 11, PSW. -/
def stackPairOfCode (code : BitVec 2) : Option StackPair :=
  match code.toNat with
  | 0 => some .bc | 1 => some .de | 2 => some .hl | _ => none

/-- The field ccc (R104). -/
def condOfCode (code : BitVec 3) : Cond :=
  match code.toNat with
  | 0 => .nz | 1 => .z | 2 => .nc | 3 => .c | 4 => .po | 5 => .pe | 6 => .p | _ => .m

/-- The field ooo (R107). -/
def aluOfCode (code : BitVec 3) : AluOp :=
  match code.toNat with
  | 0 => .add | 1 => .adc | 2 => .sub | 3 => .sbb | 4 => .ana | 5 => .xra | 6 => .ora | _ => .cmp

/-- bits 7:6 of the opcode: the quadrant of the map (R107). -/
def quadrant (op : Byte) : BitVec 2 := op.extractLsb' 6 2

/-- bits 5:3 of the opcode: ddd, ccc, ooo or nnn. -/
def field53 (op : Byte) : BitVec 3 := op.extractLsb' 3 3

/-- bits 2:0 of the opcode: sss, or the column of the map. -/
def field20 (op : Byte) : BitVec 3 := op.extractLsb' 0 3

/-- bits 5:4 of the opcode: pp. -/
def field54 (op : Byte) : BitVec 2 := op.extractLsb' 4 2

/-! ## Decoding -/

/-- Instruction length by the opcode byte alone (R100, R101): D8 and P8 are 2 bytes, D16 and A16 are 3, all others 1. -/
def instrLength (op : Byte) : Nat :=
  let y := (field53 op).toNat
  match (quadrant op).toNat with
  | 0 =>
    match (field20 op).toNat with
    | 1 => if y % 2 = 0 then 3 else 1
    | 2 => if 4 ≤ y then 3 else 1
    | 6 => 2
    | _ => 1
  | 3 =>
    match (field20 op).toNat with
    | 2 => 3
    | 3 => if y = 0 then 3 else if y = 2 ∨ y = 3 then 2 else 1
    | 4 => 3
    | 5 => if y = 1 then 3 else 1
    | 6 => 2
    | _ => 1
  | _ => 1

/-- Quadrant 00 of R107. `v` is byte 2 and `w` the word of bytes 3 and 2. -/
def decodeQuadrant0 (op v : Byte) (w : Word) : Instr :=
  let y := (field53 op).toNat
  let pair := pairOfCode (field54 op)
  match (field20 op).toNat with
  | 0 =>
    match y with
    | 0 => .nop | 1 => .undocumented08 | 2 => .undocumented10 | 3 => .undocumented18
    | 4 => .undocumented20 | 5 => .undocumented28 | 6 => .undocumented30 | _ => .undocumented38
  | 1 => if y % 2 = 0 then .lxi pair w else .dad pair
  | 2 =>
    match y with
    | 0 => .stax .bc | 1 => .ldax .bc | 2 => .stax .de | 3 => .ldax .de
    | 4 => .shld w | 5 => .lhld w | 6 => .sta w | _ => .lda w
  | 3 => if y % 2 = 0 then .inx pair else .dcx pair
  | 4 => match regOfCode (field53 op) with | some r => .inrReg r | none => .inrM
  | 5 => match regOfCode (field53 op) with | some r => .dcrReg r | none => .dcrM
  | 6 => match regOfCode (field53 op) with | some r => .mviReg r v | none => .mviM v
  | _ =>
    match y with
    | 0 => .rlc | 1 => .rrc | 2 => .ral | 3 => .rar | 4 => .daa | 5 => .cma | 6 => .stc | _ => .cmc

/-- Quadrant 01 of R107: MOV, with HLT in the place of MOV M,M. -/
def decodeQuadrant1 (op : Byte) : Instr :=
  match regOfCode (field53 op), regOfCode (field20 op) with
  | some dst, some src => .movRegReg dst src
  | some dst, none => .movRegMem dst
  | none, some src => .movMemReg src
  | none, none => .hlt

/-- Quadrant 10 of R107: the accumulator group. -/
def decodeQuadrant2 (op : Byte) : Instr :=
  match regOfCode (field20 op) with
  | some r => .aluReg (aluOfCode (field53 op)) r
  | none => .aluMem (aluOfCode (field53 op))

/-- Quadrant 11 of R107. -/
def decodeQuadrant3 (op v : Byte) (w : Word) : Instr :=
  let y := (field53 op).toNat
  let cond := condOfCode (field53 op)
  match (field20 op).toNat with
  | 0 => .retIf cond
  | 1 =>
    match y with
    | 1 => .ret | 3 => .undocumentedD9 | 5 => .pchl | 7 => .sphl
    | _ => match stackPairOfCode (field54 op) with | some p => .pop p | none => .popPsw
  | 2 => .jumpIf cond w
  | 3 =>
    match y with
    | 0 => .jmp w | 1 => .undocumentedCB | 2 => .outPort v | 3 => .inPort v
    | 4 => .xthl | 5 => .xchg | 6 => .di | _ => .ei
  | 4 => .callIf cond w
  | 5 =>
    match y with
    | 1 => .call w | 3 => .undocumentedDD | 5 => .undocumentedED | 7 => .undocumentedFD
    | _ => match stackPairOfCode (field54 op) with | some p => .push p | none => .pushPsw
  | 6 => .aluImm (aluOfCode (field53 op)) v
  | _ => .rst (field53 op)

/-- The instruction with opcode byte `op`, byte 2 `b2` and byte 3 `b3` (R106, R107); total on bytes (R110). A byte
the instruction does not have is not looked at. -/
def decodeOpcode (op b2 b3 : Byte) : Instr :=
  match (quadrant op).toNat with
  | 0 => decodeQuadrant0 op b2 (concat b3 b2)
  | 1 => decodeQuadrant1 op
  | 2 => decodeQuadrant2 op
  | _ => decodeQuadrant3 op b2 (concat b3 b2)

/-- Why a list of bytes holds no instruction. -/
inductive DecodeError where
  | noBytes
  | truncated (opcode : Byte)
  deriving DecidableEq, Repr

/-- The instruction at the head of a list of bytes, with the bytes after it (R100). -/
def decode (bytes : List Byte) : Except DecodeError (Instr × List Byte) :=
  match bytes with
  | [] => .error .noBytes
  | op :: rest =>
    match instrLength op, rest with
    | 1, rest => .ok (decodeOpcode op 0 0, rest)
    | 2, b2 :: rest => .ok (decodeOpcode op b2 0, rest)
    | 3, b2 :: b3 :: rest => .ok (decodeOpcode op b2 b3, rest)
    | _, _ => .error (.truncated op)

/-! ## Encoding -/

/-- The bytes of an instruction: the opcode byte of its row in opcode_table.json, then its operand bytes, low byte
first (R106). -/
def encode : Instr → List Byte
  | .nop => [0x00]
  | .lxiB w => [0x01, lowByte w, highByte w]
  | .staxB => [0x02]
  | .inxB => [0x03]
  | .inrB => [0x04]
  | .dcrB => [0x05]
  | .mviB v => [0x06, v]
  | .rlc => [0x07]
  | .undocumented08 => [0x08]
  | .dadB => [0x09]
  | .ldaxB => [0x0A]
  | .dcxB => [0x0B]
  | .inrC => [0x0C]
  | .dcrC => [0x0D]
  | .mviC v => [0x0E, v]
  | .rrc => [0x0F]
  | .undocumented10 => [0x10]
  | .lxiD w => [0x11, lowByte w, highByte w]
  | .staxD => [0x12]
  | .inxD => [0x13]
  | .inrD => [0x14]
  | .dcrD => [0x15]
  | .mviD v => [0x16, v]
  | .ral => [0x17]
  | .undocumented18 => [0x18]
  | .dadD => [0x19]
  | .ldaxD => [0x1A]
  | .dcxD => [0x1B]
  | .inrE => [0x1C]
  | .dcrE => [0x1D]
  | .mviE v => [0x1E, v]
  | .rar => [0x1F]
  | .undocumented20 => [0x20]
  | .lxiH w => [0x21, lowByte w, highByte w]
  | .shld w => [0x22, lowByte w, highByte w]
  | .inxH => [0x23]
  | .inrH => [0x24]
  | .dcrH => [0x25]
  | .mviH v => [0x26, v]
  | .daa => [0x27]
  | .undocumented28 => [0x28]
  | .dadH => [0x29]
  | .lhld w => [0x2A, lowByte w, highByte w]
  | .dcxH => [0x2B]
  | .inrL => [0x2C]
  | .dcrL => [0x2D]
  | .mviL v => [0x2E, v]
  | .cma => [0x2F]
  | .undocumented30 => [0x30]
  | .lxiSp w => [0x31, lowByte w, highByte w]
  | .sta w => [0x32, lowByte w, highByte w]
  | .inxSp => [0x33]
  | .inrM => [0x34]
  | .dcrM => [0x35]
  | .mviM v => [0x36, v]
  | .stc => [0x37]
  | .undocumented38 => [0x38]
  | .dadSp => [0x39]
  | .lda w => [0x3A, lowByte w, highByte w]
  | .dcxSp => [0x3B]
  | .inrA => [0x3C]
  | .dcrA => [0x3D]
  | .mviA v => [0x3E, v]
  | .cmc => [0x3F]
  | .movBB => [0x40]
  | .movBC => [0x41]
  | .movBD => [0x42]
  | .movBE => [0x43]
  | .movBH => [0x44]
  | .movBL => [0x45]
  | .movBM => [0x46]
  | .movBA => [0x47]
  | .movCB => [0x48]
  | .movCC => [0x49]
  | .movCD => [0x4A]
  | .movCE => [0x4B]
  | .movCH => [0x4C]
  | .movCL => [0x4D]
  | .movCM => [0x4E]
  | .movCA => [0x4F]
  | .movDB => [0x50]
  | .movDC => [0x51]
  | .movDD => [0x52]
  | .movDE => [0x53]
  | .movDH => [0x54]
  | .movDL => [0x55]
  | .movDM => [0x56]
  | .movDA => [0x57]
  | .movEB => [0x58]
  | .movEC => [0x59]
  | .movED => [0x5A]
  | .movEE => [0x5B]
  | .movEH => [0x5C]
  | .movEL => [0x5D]
  | .movEM => [0x5E]
  | .movEA => [0x5F]
  | .movHB => [0x60]
  | .movHC => [0x61]
  | .movHD => [0x62]
  | .movHE => [0x63]
  | .movHH => [0x64]
  | .movHL => [0x65]
  | .movHM => [0x66]
  | .movHA => [0x67]
  | .movLB => [0x68]
  | .movLC => [0x69]
  | .movLD => [0x6A]
  | .movLE => [0x6B]
  | .movLH => [0x6C]
  | .movLL => [0x6D]
  | .movLM => [0x6E]
  | .movLA => [0x6F]
  | .movMB => [0x70]
  | .movMC => [0x71]
  | .movMD => [0x72]
  | .movME => [0x73]
  | .movMH => [0x74]
  | .movML => [0x75]
  | .hlt => [0x76]
  | .movMA => [0x77]
  | .movAB => [0x78]
  | .movAC => [0x79]
  | .movAD => [0x7A]
  | .movAE => [0x7B]
  | .movAH => [0x7C]
  | .movAL => [0x7D]
  | .movAM => [0x7E]
  | .movAA => [0x7F]
  | .addB => [0x80]
  | .addC => [0x81]
  | .addD => [0x82]
  | .addE => [0x83]
  | .addH => [0x84]
  | .addL => [0x85]
  | .addM => [0x86]
  | .addA => [0x87]
  | .adcB => [0x88]
  | .adcC => [0x89]
  | .adcD => [0x8A]
  | .adcE => [0x8B]
  | .adcH => [0x8C]
  | .adcL => [0x8D]
  | .adcM => [0x8E]
  | .adcA => [0x8F]
  | .subB => [0x90]
  | .subC => [0x91]
  | .subD => [0x92]
  | .subE => [0x93]
  | .subH => [0x94]
  | .subL => [0x95]
  | .subM => [0x96]
  | .subA => [0x97]
  | .sbbB => [0x98]
  | .sbbC => [0x99]
  | .sbbD => [0x9A]
  | .sbbE => [0x9B]
  | .sbbH => [0x9C]
  | .sbbL => [0x9D]
  | .sbbM => [0x9E]
  | .sbbA => [0x9F]
  | .anaB => [0xA0]
  | .anaC => [0xA1]
  | .anaD => [0xA2]
  | .anaE => [0xA3]
  | .anaH => [0xA4]
  | .anaL => [0xA5]
  | .anaM => [0xA6]
  | .anaA => [0xA7]
  | .xraB => [0xA8]
  | .xraC => [0xA9]
  | .xraD => [0xAA]
  | .xraE => [0xAB]
  | .xraH => [0xAC]
  | .xraL => [0xAD]
  | .xraM => [0xAE]
  | .xraA => [0xAF]
  | .oraB => [0xB0]
  | .oraC => [0xB1]
  | .oraD => [0xB2]
  | .oraE => [0xB3]
  | .oraH => [0xB4]
  | .oraL => [0xB5]
  | .oraM => [0xB6]
  | .oraA => [0xB7]
  | .cmpB => [0xB8]
  | .cmpC => [0xB9]
  | .cmpD => [0xBA]
  | .cmpE => [0xBB]
  | .cmpH => [0xBC]
  | .cmpL => [0xBD]
  | .cmpM => [0xBE]
  | .cmpA => [0xBF]
  | .rnz => [0xC0]
  | .popB => [0xC1]
  | .jnz w => [0xC2, lowByte w, highByte w]
  | .jmp w => [0xC3, lowByte w, highByte w]
  | .cnz w => [0xC4, lowByte w, highByte w]
  | .pushB => [0xC5]
  | .adi v => [0xC6, v]
  | .rst0 => [0xC7]
  | .rz => [0xC8]
  | .ret => [0xC9]
  | .jz w => [0xCA, lowByte w, highByte w]
  | .undocumentedCB => [0xCB]
  | .cz w => [0xCC, lowByte w, highByte w]
  | .call w => [0xCD, lowByte w, highByte w]
  | .aci v => [0xCE, v]
  | .rst1 => [0xCF]
  | .rnc => [0xD0]
  | .popD => [0xD1]
  | .jnc w => [0xD2, lowByte w, highByte w]
  | .outPort v => [0xD3, v]
  | .cnc w => [0xD4, lowByte w, highByte w]
  | .pushD => [0xD5]
  | .sui v => [0xD6, v]
  | .rst2 => [0xD7]
  | .rc => [0xD8]
  | .undocumentedD9 => [0xD9]
  | .jc w => [0xDA, lowByte w, highByte w]
  | .inPort v => [0xDB, v]
  | .cc w => [0xDC, lowByte w, highByte w]
  | .undocumentedDD => [0xDD]
  | .sbi v => [0xDE, v]
  | .rst3 => [0xDF]
  | .rpo => [0xE0]
  | .popH => [0xE1]
  | .jpo w => [0xE2, lowByte w, highByte w]
  | .xthl => [0xE3]
  | .cpo w => [0xE4, lowByte w, highByte w]
  | .pushH => [0xE5]
  | .ani v => [0xE6, v]
  | .rst4 => [0xE7]
  | .rpe => [0xE8]
  | .pchl => [0xE9]
  | .jpe w => [0xEA, lowByte w, highByte w]
  | .xchg => [0xEB]
  | .cpe w => [0xEC, lowByte w, highByte w]
  | .undocumentedED => [0xED]
  | .xri v => [0xEE, v]
  | .rst5 => [0xEF]
  | .rp => [0xF0]
  | .popPsw => [0xF1]
  | .jp w => [0xF2, lowByte w, highByte w]
  | .di => [0xF3]
  | .cp w => [0xF4, lowByte w, highByte w]
  | .pushPsw => [0xF5]
  | .ori v => [0xF6, v]
  | .rst6 => [0xF7]
  | .rm => [0xF8]
  | .sphl => [0xF9]
  | .jm w => [0xFA, lowByte w, highByte w]
  | .ei => [0xFB]
  | .cm w => [0xFC, lowByte w, highByte w]
  | .undocumentedFD => [0xFD]
  | .cpi v => [0xFE, v]
  | .rst7 => [0xFF]

/-- The twelve undocumented opcode values, as R108 lists them. -/
def undocumentedOpcodes : List Byte :=
  [0x08, 0x10, 0x18, 0x20, 0x28, 0x30, 0x38, 0xCB, 0xD9, 0xDD, 0xED, 0xFD]

/-- Bytes 1 to 3 of an instruction numbered as opcode_table.json numbers them (byte 1 in bits 7..0), every bit from
`nbits` on zero. -/
def tableBytes (nbits w : Nat) : List Byte :=
  let v := w % 2 ^ nbits
  [BitVec.ofNat 8 v, BitVec.ofNat 8 (v / 256), BitVec.ofNat 8 (v / 65536)]

/-- What the decoder reads from a row's bits (log 9). -/
def decodeTableWord (nbits w : Nat) : Option Instr :=
  match decode (tableBytes nbits w) with
  | .ok (i, _) => some i
  | .error _ => none

end Sys2Proof
end

