-- ==== Sys2Proof/Machine/State.lean ====
section
/-! DEFINITION. The state of the machine as plain data: the core's own state (10_state.md R30), the memory of the bus
(20_memory.md R74), and the model's own fields for what the board and the host do (log 1, 2, 3, 5, 6). Also why a step can
stop. -/

namespace Sys2Proof.Machine

/-- The five flags (R38). -/
structure Flags where
  cy : Bool
  ac : Bool
  p : Bool
  s : Bool
  z : Bool
  deriving DecidableEq, Repr

/-- The complete state of the core (R30): "the following, and nothing else". The pairs BC, DE and HL are views
of the bytes (R33). -/
structure Cpu where
  b : Byte
  c : Byte
  d : Byte
  e : Byte
  h : Byte
  l : Byte
  a : Byte
  sp : Word
  pc : Word
  flags : Flags
  active : Bool
  ie : Bool
  deriving DecidableEq, Repr

/-- The bytes of memory that differ from `Config.unlistedByte`, by rising address (log 7). -/
abbrev Memory := List Host.Cell

/-- One access to the bus (20_memory.md R72), as a bus fault records it (60_exceptions.md R382). -/
inductive Access where
  | read (address : Word)
  | write (address : Word) (value : Byte)
  | input (port : Byte)
  | output (port value : Byte)
  deriving DecidableEq, Repr

/-- A call the host makes between steps (60_exceptions.md R401). -/
inductive HostCall where
  | execute
  | interrupt (code : Byte)
  | reset (vector : Nat)
  | inspect
  /-- any call on a Machine whose bus has been destroyed (R392) -/
  | afterBusDestroyed
  /-- any call made while another is in progress (R391, R392) -/
  | concurrent
  deriving DecidableEq, Repr

/-- What a host call returns: `execute` a cycle count or 0 for halted (R380), `interrupt` true or false (R385,
R386), `reset` also InvalidArgument (R388), `inspect` the CPU state (10_state.md R45). `notCalled` stands before the first
call. -/
inductive CallResult where
  | notCalled
  | cycles (n : Nat)
  | halted
  | interruptAccepted
  | interruptMasked
  | invalidArgument
  | inspected (cpu : Cpu)
  deriving DecidableEq, Repr

/-- The machine. `cpu` and `mem` are the spec's; the other fields are the model's own. -/
structure State where
  /-- the core (R30) -/
  cpu : Cpu
  /-- the RAM behind the bus (R74) -/
  mem : Memory
  /-- the accesses the board does not service: the complement of BUS_ADMITS (R76, log 5) -/
  unserviced : List Access
  /-- `none`: the bus has no trap hook; `some answers`: the hook's answers to come, `[]` for "no replacement" (R112, log 3) -/
  hookAnswers : Option (List (List Byte))
  /-- the host's calls to come; when there is none the host calls `execute` (R389, log 2) -/
  calls : List HostCall
  /-- the port transactions so far, oldest first (R75, log 6) -/
  history : List PortEvent
  /-- what the last host call returned (log 1) -/
  result : CallResult
  deriving DecidableEq, Repr

/-- A bus that the host supplies at construction (60_exceptions.md R401; 70_reset_and_hazards.md R420): what the parameters
IMAGE, BUS_ADMITS and TRAP of 00_scope.md R8 say of it. What its input ports answer is `Config.input` (log 6). -/
structure Bus where
  /-- the bytes it holds (IMAGE); of two cells with one address the first counts, and an address without a cell holds
  `Config.unlistedByte` (log 7) -/
  cells : List (Word × Byte)
  /-- the accesses it does not service (R76, log 5) -/
  unserviced : List Access
  /-- its trap hook, if it has one, as the answers to come (R112, log 3) -/
  hookAnswers : Option (List (List Byte))
  deriving DecidableEq, Repr

/-- Why a step ends with an error (60_exceptions.md R380). No state goes with it. -/
inductive Fault where
  /-- Raised by the meanings of the twelve undocumented values, fetched or in a replacement (R381). Safe. -/
  | illegalOpcode (address : Word) (opcode : Byte)
  /-- Raised by every bus access that the board does not service (R382), the push of an accepted interrupt among them
  (log 14). Safe: no state is claimed afterwards (log 8). -/
  | busFault (access : Access)
  deriving DecidableEq, Repr

/-- What the spec gives no meaning to (60_exceptions.md R392). -/
inductive Refusal where
  /-- Raised by an arm of `exec` that has no meaning yet; no arm is left so. Safe. -/
  | notModelled (mnemonic : String)
  /-- Raised by `interrupt(code)` with IE = 1 and a code that is no RST opcode (R387). Safe. -/
  | nonRestartCode (code : Byte)
  /-- Raised by a step whose trap replacement is shorter than its instruction (R113, D26). Safe. -/
  | replacementTooShort (opcode : Byte)
  /-- Raised by a step whose trap replacement is longer than four bytes (R113, R401; log 4). Safe. -/
  | replacementTooLong (opcode : Byte)
  /-- Raised by the host call `afterBusDestroyed` (R392). Safe. -/
  | busDestroyed
  /-- Raised by the host call `concurrent` (R391, R392). Safe. -/
  | concurrentCall
  deriving DecidableEq, Repr

/-- The core right after construction (R46). -/
def Cpu.reset : Cpu :=
  { b := 0, c := 0, d := 0, e := 0, h := 0, l := 0, a := 0, sp := 0, pc := 0,
    flags := { cy := false, ac := false, p := false, s := false, z := false }, active := true, ie := false }

/-- The machine right after construction with no bus and no image (R46, R420, R421), with the spec's default
parameters: no trap hook, every access serviced. -/
def State.reset : State :=
  { cpu := Cpu.reset, mem := [], unserviced := [], hookAnswers := none, calls := [], history := [], result := .notCalled }

end Sys2Proof.Machine
end

