-- ==== Sys2Proof/Machine/Flags.lean ====
section
/-! DEFINITION. The flag compute unit (41_arithmetic.md section 1, 42_logical.md R230), the flag byte (10_state.md R41) and
the condition test (44_branch.md R290). -/

namespace Sys2Proof.Machine

/-- A flag as the number 0 or 1 in a byte. -/
def bit (v : Bool) : Byte := if v then 1 else 0

/-- popcount(v) (00_scope.md R9). -/
def popcount (v : Byte) : Nat :=
  (v.getLsbD 0).toNat + (v.getLsbD 1).toNat + (v.getLsbD 2).toNat + (v.getLsbD 3).toNat
    + (v.getLsbD 4).toNat + (v.getLsbD 5).toNat + (v.getLsbD 6).toNat + (v.getLsbD 7).toNat

/-- szp(v): Z, S and P from a result byte, CY and AC kept (R180). -/
def szp (v : Byte) (f : Flags) : Flags :=
  { f with z := decide (v = 0), s := v.getLsbD 7, p := decide (popcount v % 2 = 0) }

/-- add8(a, b, cin) = (r, cy, ac): the sum in 9 bits; ac is the carry out of bit 3 (R181). -/
def add8 (a b : Byte) (cin : Bool) : Byte × Bool × Bool :=
  let s : BitVec 9 := a.setWidth 9 + b.setWidth 9 + (bit cin).setWidth 9
  (s.setWidth 8, s.getLsbD 8, decide ((a &&& 0x0F).toNat + (b &&& 0x0F).toNat + cin.toNat > 0x0F))

/-- sub8(a, b, bin) = (r, cy, ac): the 9-bit sum a + ~b + (1 - bin), cy its complemented carry (R182). -/
def sub8 (a b : Byte) (bin : Bool) : Byte × Bool × Bool :=
  let nb := ~~~b
  let s : BitVec 9 := a.setWidth 9 + nb.setWidth 9 + (bit (!bin)).setWidth 9
  (s.setWidth 8, !s.getLsbD 8, decide ((a &&& 0x0F).toNat + (nb &&& 0x0F).toNat + (!bin).toNat > 0x0F))

/-- Flags of a logical result: szp, CY <- 0, AC <- 0 (R230). -/
def logicFlags (v : Byte) (f : Flags) : Flags := szp v { f with cy := false, ac := false }

/-- Flags of an arithmetic result (r, cy, ac): szp(r), CY <- cy, AC <- ac (R185). -/
def arithFlags (r : Byte × Bool × Bool) (f : Flags) : Flags := szp r.1 { f with cy := r.2.1, ac := r.2.2 }

/-- The accumulator group (R185-R196, R231-R242): the new accumulator and flags from A, the operand and the flags.
CMP writes no accumulator. -/
def alu (op : AluOp) (a x : Byte) (f : Flags) : Byte × Flags :=
  match op with
  | .add => ((add8 a x false).1, arithFlags (add8 a x false) f)
  | .adc => ((add8 a x f.cy).1, arithFlags (add8 a x f.cy) f)
  | .sub => ((sub8 a x false).1, arithFlags (sub8 a x false) f)
  | .sbb => ((sub8 a x f.cy).1, arithFlags (sub8 a x f.cy) f)
  | .ana => (a &&& x, logicFlags (a &&& x) f)
  | .xra => (a ^^^ x, logicFlags (a ^^^ x) f)
  | .ora => (a ||| x, logicFlags (a ||| x) f)
  | .cmp => (a, arithFlags (sub8 a x false) f)

/-- INR of a byte: v + 1, szp, AC when the low digit was 0xF; CY kept (R183, R197). -/
def increment (v : Byte) (f : Flags) : Byte × Flags :=
  (v + 1, szp (v + 1) { f with ac := decide (v &&& 0x0F = 0x0F) })

/-- DCR of a byte: v - 1, szp, AC unless the low digit was 0; CY kept (R183, R199). -/
def decrement (v : Byte) (f : Flags) : Byte × Flags :=
  (v - 1, szp (v - 1) { f with ac := decide (v &&& 0x0F ≠ 0x00) })

/-- DAD: HL + rp[p] in 17 bits; CY is bit 16, the other flags are kept (R203). -/
def add16 (x y : Word) (f : Flags) : Word × Flags :=
  let s : BitVec 17 := x.setWidth 17 + y.setWidth 17
  (s.setWidth 16, { f with cy := s.getLsbD 16 })

/-- DAA, line by line (R204). -/
def decimalAdjust (a : Byte) (f : Flags) : Byte × Flags :=
  let lsb := a &&& 0x0F
  let msb := a >>> 4
  let low := f.ac || decide (lsb > 9)
  let high := f.cy || decide (msb > 9) || (decide (msb ≥ 9) && decide (lsb > 9))
  let corr : Byte := (if low then 0x06 else 0x00) + (if high then 0x60 else 0x00)
  let r := add8 a corr false
  (r.1, szp r.1 { f with ac := r.2.2, cy := f.cy || high })

/-- RLC: b <- A[7]; A <- (A << 1) | b; CY <- b (R243). -/
def rotateLeft (a : Byte) (f : Flags) : Byte × Flags :=
  let b := a.getLsbD 7
  ((a <<< 1) ||| bit b, { f with cy := b })

/-- RRC: b <- A[0]; A <- (A >> 1) | (b << 7); CY <- b (R244). -/
def rotateRight (a : Byte) (f : Flags) : Byte × Flags :=
  let b := a.getLsbD 0
  ((a >>> 1) ||| (bit b <<< 7), { f with cy := b })

/-- RAL: b <- A[7]; A <- (A << 1) | CY; CY <- b (R245). -/
def rotateLeftThroughCarry (a : Byte) (f : Flags) : Byte × Flags :=
  let b := a.getLsbD 7
  ((a <<< 1) ||| bit f.cy, { f with cy := b })

/-- RAR: b <- A[0]; A <- (A >> 1) | (CY << 7); CY <- b (R246). -/
def rotateRightThroughCarry (a : Byte) (f : Flags) : Byte × Flags :=
  let b := a.getLsbD 0
  ((a >>> 1) ||| (bit f.cy <<< 7), { f with cy := b })

/-- The flag byte F: S<<7 | Z<<6 | AC<<4 | P<<2 | 0x02 | CY (R41). -/
def flagByte (f : Flags) : Byte :=
  (bit f.s <<< 7) ||| (bit f.z <<< 6) ||| (bit f.ac <<< 4) ||| (bit f.p <<< 2) ||| 0x02 ||| bit f.cy

/-- The flags of a popped byte; bits 5, 3 and 1 are discarded (R276). -/
def flagsOfByte (v : Byte) : Flags :=
  { s := v.getLsbD 7, z := v.getLsbD 6, ac := v.getLsbD 4, p := v.getLsbD 2, cy := v.getLsbD 0 }

/-- cond(c) (R290). -/
def testCond (code : Cond) (f : Flags) : Bool :=
  match code with
  | .nz => !f.z
  | .z => f.z
  | .nc => !f.cy
  | .c => f.cy
  | .po => !f.p
  | .pe => f.p
  | .p => !f.s
  | .m => f.s

end Sys2Proof.Machine
end

