-- ==== Sys2Proof/Machine/Ops.lean ====
section
/-! DEFINITION. The shared operations: sequencing, updates of State, memory, the bus, ports, the stack, taking an
interrupt and returning from it. -/

namespace Sys2Proof.Machine

/-! ## Sequencing -/

/-- Go on with `f` when `o` is a value; a fault or a refusal ends the step (00_scope.md R12 `raise`). -/
def andThen {α β : Type} (o : Host.Outcome α Fault Refusal) (f : α → Host.Outcome β Fault Refusal) :
    Host.Outcome β Fault Refusal :=
  match o with
  | .next x => f x
  | .fault r => .fault r
  | .refused r => .refused r

/-! ## Updates -/

def State.setPc (s : State) (v : Word) : State := { s with cpu := { s.cpu with pc := v } }
def State.setSp (s : State) (v : Word) : State := { s with cpu := { s.cpu with sp := v } }
def State.setFlags (s : State) (f : Flags) : State := { s with cpu := { s.cpu with flags := f } }
def State.setIe (s : State) (v : Bool) : State := { s with cpu := { s.cpu with ie := v } }
def State.setActive (s : State) (v : Bool) : State := { s with cpu := { s.cpu with active := v } }
def State.setMem (s : State) (m : Memory) : State := { s with mem := m }
def State.setHookAnswers (s : State) (v : Option (List (List Byte))) : State := { s with hookAnswers := v }
def State.setCalls (s : State) (v : List HostCall) : State := { s with calls := v }
def State.addEvent (s : State) (e : PortEvent) : State := { s with history := s.history ++ [e] }
def State.setResult (s : State) (v : CallResult) : State := { s with result := v }

/-- The end of an executed instruction: it returns `n` cycles (30_encoding.md R115). -/
def finish (n : Nat) (s : State) : Host.Outcome State Fault Refusal := .next (s.setResult (.cycles n))

/-! ## Memory as data (20_memory.md R74; log 7) -/

/-- The byte at address `a`. -/
def Memory.read : Memory → Nat → Byte
  | [], _ => Config.unlistedByte
  | cell :: rest, a => if cell.1 = a then cell.2 else Memory.read rest a

/-- The memory without an entry for address `a`. -/
def Memory.erase (m : Memory) (a : Nat) : Memory := m.filter fun cell => decide (cell.1 ≠ a)

/-- Puts an entry before the first entry of a higher address. -/
def Memory.insert : Memory → Nat → Byte → Memory
  | [], a, v => [(a, v)]
  | cell :: rest, a, v => if a < cell.1 then (a, v) :: cell :: rest else cell :: Memory.insert rest a v

/-- The memory with byte `v` at address `a`; writing what an unlisted address reads as removes the entry. -/
def Memory.write (m : Memory) (a : Nat) (v : Byte) : Memory :=
  if v = Config.unlistedByte then m.erase a else (m.erase a).insert a v

/-- The canonical form from address `low` on: addresses strictly rising and in range, no entry that says what an
unlisted address reads as. -/
def Memory.wfFrom (low : Nat) : Memory → Bool
  | [] => true
  | cell :: rest =>
    decide (low ≤ cell.1) && decide (cell.1 < Config.memorySize) && decide (cell.2 ≠ Config.unlistedByte)
      && Memory.wfFrom (cell.1 + 1) rest

/-- The canonical form of a memory. -/
def Memory.wf (m : Memory) : Bool := Memory.wfFrom 0 m

/-- Bytes written at consecutive addresses, the address taken modulo 2^16. -/
def Memory.writeBytes : Memory → Word → List Byte → Memory
  | m, _, [] => m
  | m, a, v :: rest => Memory.writeBytes (m.write a.toNat v) (a + 1) rest

/-- The byte at an address, as a claim reads it: no access is made. -/
def State.byteAt (s : State) (a : Word) : Byte := s.mem.read a.toNat

/-! ## The bus (20_memory.md R72, R76) -/

/-- BUS_ADMITS: does the board service this access? -/
def State.admits (s : State) (x : Access) : Bool := decide (x ∉ s.unserviced)

/-- MemRead(a, 1) (00_scope.md R11). -/
def memRead1 (a : Word) (s : State) : Host.Outcome Byte Fault Refusal :=
  if s.admits (.read a) then .next (s.byteAt a) else .fault (.busFault (.read a))

/-- MemWrite(a, 1, v). -/
def memWrite1 (a : Word) (v : Byte) (s : State) : Host.Outcome State Fault Refusal :=
  if s.admits (.write a v) then .next (s.setMem (s.mem.write a.toNat v)) else .fault (.busFault (.write a v))

/-- MemRead(a, 2): low byte first, high byte at a + 1 modulo 2^16 (R73). -/
def memRead2 (a : Word) (s : State) : Host.Outcome Word Fault Refusal :=
  andThen (memRead1 a s) fun lo => andThen (memRead1 (a + 1) s) fun hi => .next (concat hi lo)

/-- MemWrite(a, 2, v): low byte first (R73). -/
def memWrite2 (a : Word) (v : Word) (s : State) : Host.Outcome State Fault Refusal :=
  andThen (memWrite1 a (lowByte v) s) fun t => memWrite1 (a + 1) (highByte v) t

/-- PortIn(p): the board answers a free byte, and the transaction is recorded (R75). -/
def portIn (p : Byte) (s : State) : Host.Outcome (Byte × State) Fault Refusal :=
  if s.admits (.input p) then
    .next (Config.input p s.history, s.addEvent (.input p (Config.input p s.history)))
  else .fault (.busFault (.input p))

/-- PortOut(p, v): recorded as an event (R75). -/
def portOut (p v : Byte) (s : State) : Host.Outcome State Fault Refusal :=
  if s.admits (.output p v) then .next (s.addEvent (.output p v)) else .fault (.busFault (.output p v))

/-! ## The stack (43_stack.md R270, R271) -/

/-- `SP <- (SP - 2) mod 2^16; MemWrite(SP, 2, v)`. -/
def push16 (v : Word) (s : State) : Host.Outcome State Fault Refusal :=
  memWrite2 (s.cpu.sp - 2) v (s.setSp (s.cpu.sp - 2))

/-- `v <- MemRead(SP, 2); SP <- (SP + 2) mod 2^16; return v`. -/
def pop16 (s : State) : Host.Outcome (Word × State) Fault Refusal :=
  andThen (memRead2 s.cpu.sp s) fun v => .next (v, s.setSp (s.cpu.sp + 2))

/-! ## Taking an interrupt and returning (60_exceptions.md R386, R390) -/

/-- `code & 0xC7 = 0xC7`: the RST opcodes (R387). -/
def isRestartCode (code : Byte) : Bool := decide (code &&& 0xC7 = 0xC7)

/-- An accepted interrupt: IE <- 0; active <- 1; push16(pc); pc <- code & 0x38 (R386). DESIGN CHOICE (log 14): the spec
does not say what the call answers when the board does not service the push; the model ends it in that access's bus fault, as
R382 ends a step. -/
def takeInterrupt (code : Byte) (s : State) : Host.Outcome State Fault Refusal :=
  andThen (push16 s.cpu.pc ((s.setIe false).setActive true)) fun t =>
    .next (t.setPc ((code &&& 0x38).setWidth 16))

/-- `pc <- pop16()`: the return of RET, from a call and from an interrupt alike (R311, R390). -/
def returnFromStack (s : State) : Host.Outcome State Fault Refusal :=
  andThen (pop16 s) fun r => .next (r.2.setPc r.1)

end Sys2Proof.Machine
end

