-- ==== Sys2Proof/Machine/Operands.lean ====
section
/-! DEFINITION. The operand forms: registers and pairs (10_state.md R32, R33; 30_encoding.md R102, R103) and the memory operand M
(00_scope.md R15). -/

namespace Sys2Proof

/-- The pair that PUSH and POP name. -/
def StackPair.pair : StackPair → Pair
  | .bc => .bc
  | .de => .de
  | .hl => .hl

/-- The pair that LDAX and STAX name. -/
def IndexPair.pair : IndexPair → Pair
  | .bc => .bc
  | .de => .de

end Sys2Proof

namespace Sys2Proof.Machine

/-- x[r] (00_scope.md R10). -/
def State.reg (s : State) : Reg → Byte
  | .b => s.cpu.b
  | .c => s.cpu.c
  | .d => s.cpu.d
  | .e => s.cpu.e
  | .h => s.cpu.h
  | .l => s.cpu.l
  | .a => s.cpu.a

/-- x[r] <- v. -/
def State.setReg (s : State) (r : Reg) (v : Byte) : State :=
  match r with
  | .b => { s with cpu := { s.cpu with b := v } }
  | .c => { s with cpu := { s.cpu with c := v } }
  | .d => { s with cpu := { s.cpu with d := v } }
  | .e => { s with cpu := { s.cpu with e := v } }
  | .h => { s with cpu := { s.cpu with h := v } }
  | .l => { s with cpu := { s.cpu with l := v } }
  | .a => { s with cpu := { s.cpu with a := v } }

/-- rp[p]: BC = concat(B, C), DE = concat(D, E), HL = concat(H, L) (R33), or SP. -/
def State.pair (s : State) : Pair → Word
  | .bc => concat (s.reg .b) (s.reg .c)
  | .de => concat (s.reg .d) (s.reg .e)
  | .hl => concat (s.reg .h) (s.reg .l)
  | .sp => s.cpu.sp

/-- rp[p] <- v: "writing a pair writes both halves" (R33). -/
def State.setPair (s : State) (p : Pair) (v : Word) : State :=
  match p with
  | .bc => (s.setReg .b (highByte v)).setReg .c (lowByte v)
  | .de => (s.setReg .d (highByte v)).setReg .e (lowByte v)
  | .hl => (s.setReg .h (highByte v)).setReg .l (lowByte v)
  | .sp => s.setSp v

/-- The address of M. -/
def State.hl (s : State) : Word := s.pair .hl

/-- MemRead(HL, 1): the operand M read. -/
def readM (s : State) : Host.Outcome Byte Fault Refusal := memRead1 s.hl s

/-- MemWrite(HL, 1, v): the operand M written. -/
def writeM (v : Byte) (s : State) : Host.Outcome State Fault Refusal := memWrite1 s.hl v s

end Sys2Proof.Machine
end

