-- ==== Sys2Proof/Machine/Accumulator.lean ====
section
/-! DEFINITION. The three operand forms of the accumulator group, shared by 41_arithmetic.md and 42_logical.md: register (4
cycles), M (7) and immediate (7) (70_reset_and_hazards.md R440). -/

namespace Sys2Proof.Machine

/-- A and the flags from A, the operand and the flags. -/
def State.withAlu (s : State) (op : AluOp) (x : Byte) : State :=
  let r := alu op (s.reg .a) x s.cpu.flags
  (s.setReg .a r.1).setFlags r.2

def aluReg (op : AluOp) (r : Reg) (s : State) : Host.Outcome State Fault Refusal :=
  finish 4 (s.withAlu op (s.reg r))

def aluMem (op : AluOp) (s : State) : Host.Outcome State Fault Refusal :=
  andThen (readM s) fun m => finish 7 (s.withAlu op m)

def aluImm (op : AluOp) (v : Byte) (s : State) : Host.Outcome State Fault Refusal :=
  finish 7 (s.withAlu op v)

/-- An operation on A and the flags alone (DAA and the rotates): 4 cycles. -/
def accumulatorOp (f : Byte → Flags → Byte × Flags) (s : State) : Host.Outcome State Fault Refusal :=
  let r := f (s.reg .a) s.cpu.flags
  finish 4 ((s.setReg .a r.1).setFlags r.2)

end Sys2Proof.Machine
end

