-- ==== Sys2Proof/Machine/Arithmetic.lean ====
section
/-! DEFINITION. 41_arithmetic.md section 2: ADD, ADC, SUB, SBB and their immediate forms, INR, DCR, INX, DCX, DAD, DAA. -/

namespace Sys2Proof.Machine

/-- INR and DCR of a register (R197, R199): 5 cycles. -/
def countReg (f : Byte → Flags → Byte × Flags) (r : Reg) (s : State) : Host.Outcome State Fault Refusal :=
  let v := f (s.reg r) s.cpu.flags
  finish 5 ((s.setReg r v.1).setFlags v.2)

/-- INR and DCR of M: one read, then one write (R198, R200): 10 cycles. -/
def countMem (f : Byte → Flags → Byte × Flags) (s : State) : Host.Outcome State Fault Refusal :=
  andThen (readM s) fun m =>
    andThen (writeM (f m s.cpu.flags).1 s) fun t => finish 10 (t.setFlags (f m s.cpu.flags).2)

/-- DAD (R203): 10 cycles. -/
def dadPair (p : Pair) (s : State) : Host.Outcome State Fault Refusal :=
  let v := add16 s.hl (s.pair p) s.cpu.flags
  finish 10 ((s.setPair .hl v.1).setFlags v.2)

/-! ## ADD and ADI -/

/-- ADD B, opcode 0x80 (R185). -/
def execAddB (s : State) : Host.Outcome State Fault Refusal := aluReg .add .b s

/-- ADD C, opcode 0x81 (R185). -/
def execAddC (s : State) : Host.Outcome State Fault Refusal := aluReg .add .c s

/-- ADD D, opcode 0x82 (R185). -/
def execAddD (s : State) : Host.Outcome State Fault Refusal := aluReg .add .d s

/-- ADD E, opcode 0x83 (R185). -/
def execAddE (s : State) : Host.Outcome State Fault Refusal := aluReg .add .e s

/-- ADD H, opcode 0x84 (R185). -/
def execAddH (s : State) : Host.Outcome State Fault Refusal := aluReg .add .h s

/-- ADD L, opcode 0x85 (R185). -/
def execAddL (s : State) : Host.Outcome State Fault Refusal := aluReg .add .l s

/-- ADD A, opcode 0x87 (R185). -/
def execAddA (s : State) : Host.Outcome State Fault Refusal := aluReg .add .a s

/-- ADD M, opcode 0x86 (R186). -/
def execAddM (s : State) : Host.Outcome State Fault Refusal := aluMem .add s

/-- ADI data, opcode 0xC6 (R187). -/
def execAdi (data8 : Byte) (s : State) : Host.Outcome State Fault Refusal := aluImm .add data8 s

/-! ## ADC and ACI -/

/-- ADC B, opcode 0x88 (R188). -/
def execAdcB (s : State) : Host.Outcome State Fault Refusal := aluReg .adc .b s

/-- ADC C, opcode 0x89 (R188). -/
def execAdcC (s : State) : Host.Outcome State Fault Refusal := aluReg .adc .c s

/-- ADC D, opcode 0x8A (R188). -/
def execAdcD (s : State) : Host.Outcome State Fault Refusal := aluReg .adc .d s

/-- ADC E, opcode 0x8B (R188). -/
def execAdcE (s : State) : Host.Outcome State Fault Refusal := aluReg .adc .e s

/-- ADC H, opcode 0x8C (R188). -/
def execAdcH (s : State) : Host.Outcome State Fault Refusal := aluReg .adc .h s

/-- ADC L, opcode 0x8D (R188). -/
def execAdcL (s : State) : Host.Outcome State Fault Refusal := aluReg .adc .l s

/-- ADC A, opcode 0x8F (R188). -/
def execAdcA (s : State) : Host.Outcome State Fault Refusal := aluReg .adc .a s

/-- ADC M, opcode 0x8E (R189). -/
def execAdcM (s : State) : Host.Outcome State Fault Refusal := aluMem .adc s

/-- ACI data, opcode 0xCE (R190). -/
def execAci (data8 : Byte) (s : State) : Host.Outcome State Fault Refusal := aluImm .adc data8 s

/-! ## SUB and SUI -/

/-- SUB B, opcode 0x90 (R191). -/
def execSubB (s : State) : Host.Outcome State Fault Refusal := aluReg .sub .b s

/-- SUB C, opcode 0x91 (R191). -/
def execSubC (s : State) : Host.Outcome State Fault Refusal := aluReg .sub .c s

/-- SUB D, opcode 0x92 (R191). -/
def execSubD (s : State) : Host.Outcome State Fault Refusal := aluReg .sub .d s

/-- SUB E, opcode 0x93 (R191). -/
def execSubE (s : State) : Host.Outcome State Fault Refusal := aluReg .sub .e s

/-- SUB H, opcode 0x94 (R191). -/
def execSubH (s : State) : Host.Outcome State Fault Refusal := aluReg .sub .h s

/-- SUB L, opcode 0x95 (R191). -/
def execSubL (s : State) : Host.Outcome State Fault Refusal := aluReg .sub .l s

/-- SUB A, opcode 0x97 (R191). -/
def execSubA (s : State) : Host.Outcome State Fault Refusal := aluReg .sub .a s

/-- SUB M, opcode 0x96 (R192). -/
def execSubM (s : State) : Host.Outcome State Fault Refusal := aluMem .sub s

/-- SUI data, opcode 0xD6 (R193). -/
def execSui (data8 : Byte) (s : State) : Host.Outcome State Fault Refusal := aluImm .sub data8 s

/-! ## SBB and SBI -/

/-- SBB B, opcode 0x98 (R194). -/
def execSbbB (s : State) : Host.Outcome State Fault Refusal := aluReg .sbb .b s

/-- SBB C, opcode 0x99 (R194). -/
def execSbbC (s : State) : Host.Outcome State Fault Refusal := aluReg .sbb .c s

/-- SBB D, opcode 0x9A (R194). -/
def execSbbD (s : State) : Host.Outcome State Fault Refusal := aluReg .sbb .d s

/-- SBB E, opcode 0x9B (R194). -/
def execSbbE (s : State) : Host.Outcome State Fault Refusal := aluReg .sbb .e s

/-- SBB H, opcode 0x9C (R194). -/
def execSbbH (s : State) : Host.Outcome State Fault Refusal := aluReg .sbb .h s

/-- SBB L, opcode 0x9D (R194). -/
def execSbbL (s : State) : Host.Outcome State Fault Refusal := aluReg .sbb .l s

/-- SBB A, opcode 0x9F (R194). -/
def execSbbA (s : State) : Host.Outcome State Fault Refusal := aluReg .sbb .a s

/-- SBB M, opcode 0x9E (R195). -/
def execSbbM (s : State) : Host.Outcome State Fault Refusal := aluMem .sbb s

/-- SBI data, opcode 0xDE (R196). -/
def execSbi (data8 : Byte) (s : State) : Host.Outcome State Fault Refusal := aluImm .sbb data8 s

/-! ## INR and DCR -/

/-- INR B, opcode 0x04 (R197). -/
def execInrB (s : State) : Host.Outcome State Fault Refusal := countReg increment .b s

/-- INR C, opcode 0x0C (R197). -/
def execInrC (s : State) : Host.Outcome State Fault Refusal := countReg increment .c s

/-- INR D, opcode 0x14 (R197). -/
def execInrD (s : State) : Host.Outcome State Fault Refusal := countReg increment .d s

/-- INR E, opcode 0x1C (R197). -/
def execInrE (s : State) : Host.Outcome State Fault Refusal := countReg increment .e s

/-- INR H, opcode 0x24 (R197). -/
def execInrH (s : State) : Host.Outcome State Fault Refusal := countReg increment .h s

/-- INR L, opcode 0x2C (R197). -/
def execInrL (s : State) : Host.Outcome State Fault Refusal := countReg increment .l s

/-- INR A, opcode 0x3C (R197). -/
def execInrA (s : State) : Host.Outcome State Fault Refusal := countReg increment .a s

/-- INR M, opcode 0x34 (R198). -/
def execInrM (s : State) : Host.Outcome State Fault Refusal := countMem increment s

/-- DCR B, opcode 0x05 (R199). -/
def execDcrB (s : State) : Host.Outcome State Fault Refusal := countReg decrement .b s

/-- DCR C, opcode 0x0D (R199). -/
def execDcrC (s : State) : Host.Outcome State Fault Refusal := countReg decrement .c s

/-- DCR D, opcode 0x15 (R199). -/
def execDcrD (s : State) : Host.Outcome State Fault Refusal := countReg decrement .d s

/-- DCR E, opcode 0x1D (R199). -/
def execDcrE (s : State) : Host.Outcome State Fault Refusal := countReg decrement .e s

/-- DCR H, opcode 0x25 (R199). -/
def execDcrH (s : State) : Host.Outcome State Fault Refusal := countReg decrement .h s

/-- DCR L, opcode 0x2D (R199). -/
def execDcrL (s : State) : Host.Outcome State Fault Refusal := countReg decrement .l s

/-- DCR A, opcode 0x3D (R199). -/
def execDcrA (s : State) : Host.Outcome State Fault Refusal := countReg decrement .a s

/-- DCR M, opcode 0x35 (R200). -/
def execDcrM (s : State) : Host.Outcome State Fault Refusal := countMem decrement s

/-! ## INX, DCX and DAD -/

/-- INX B, opcode 0x03 (R201). -/
def execInxB (s : State) : Host.Outcome State Fault Refusal := finish 5 (s.setPair .bc (s.pair .bc + 1))

/-- INX D, opcode 0x13 (R201). -/
def execInxD (s : State) : Host.Outcome State Fault Refusal := finish 5 (s.setPair .de (s.pair .de + 1))

/-- INX H, opcode 0x23 (R201). -/
def execInxH (s : State) : Host.Outcome State Fault Refusal := finish 5 (s.setPair .hl (s.pair .hl + 1))

/-- INX SP, opcode 0x33 (R201). -/
def execInxSp (s : State) : Host.Outcome State Fault Refusal := finish 5 (s.setPair .sp (s.pair .sp + 1))

/-- DCX B, opcode 0x0B (R202). -/
def execDcxB (s : State) : Host.Outcome State Fault Refusal := finish 5 (s.setPair .bc (s.pair .bc - 1))

/-- DCX D, opcode 0x1B (R202). -/
def execDcxD (s : State) : Host.Outcome State Fault Refusal := finish 5 (s.setPair .de (s.pair .de - 1))

/-- DCX H, opcode 0x2B (R202). -/
def execDcxH (s : State) : Host.Outcome State Fault Refusal := finish 5 (s.setPair .hl (s.pair .hl - 1))

/-- DCX SP, opcode 0x3B (R202). -/
def execDcxSp (s : State) : Host.Outcome State Fault Refusal := finish 5 (s.setPair .sp (s.pair .sp - 1))

/-- DAD B, opcode 0x09 (R203). -/
def execDadB (s : State) : Host.Outcome State Fault Refusal := dadPair .bc s

/-- DAD D, opcode 0x19 (R203). -/
def execDadD (s : State) : Host.Outcome State Fault Refusal := dadPair .de s

/-- DAD H, opcode 0x29 (R203). -/
def execDadH (s : State) : Host.Outcome State Fault Refusal := dadPair .hl s

/-- DAD SP, opcode 0x39 (R203). -/
def execDadSp (s : State) : Host.Outcome State Fault Refusal := dadPair .sp s

/-! ## DAA -/

/-- DAA, opcode 0x27 (R204). -/
def execDaa (s : State) : Host.Outcome State Fault Refusal := accumulatorOp decimalAdjust s

end Sys2Proof.Machine
end

