-- ==== Sys2Proof/Machine/Branch.lean ====
section
/-! DEFINITION. 44_branch.md: JMP, Jcc, CALL, Ccc, RET, Rcc, RST, PCHL. `s.cpu.pc` is the pc that fetch left (30_encoding.md R114; log 11). -/

namespace Sys2Proof.Machine

/-- `if cond: pc <- addr16` (R294-R301): 10 cycles either way. -/
def jumpIf (code : Cond) (addr : Word) (s : State) : Host.Outcome State Fault Refusal :=
  if testCond code s.cpu.flags then finish 10 (s.setPc addr) else finish 10 s

/-- `push16(pc); pc <- addr16` (R302): 17 cycles. -/
def callTo (addr : Word) (s : State) : Host.Outcome State Fault Refusal :=
  andThen (push16 s.cpu.pc s) fun t => finish 17 (t.setPc addr)

/-- A conditional call: 17 cycles when taken, 11 when not (R303-R310). -/
def callIf (code : Cond) (addr : Word) (s : State) : Host.Outcome State Fault Refusal :=
  if testCond code s.cpu.flags then callTo addr s else finish 11 s

/-- A conditional return: 11 cycles when taken, 5 when not (R312-R319). -/
def retIf (code : Cond) (s : State) : Host.Outcome State Fault Refusal :=
  if testCond code s.cpu.flags then andThen (returnFromStack s) (finish 11) else finish 5 s

/-- `push16(pc); pc <- n * 8` (R320): 11 cycles. -/
def restart (n : Word) (s : State) : Host.Outcome State Fault Refusal :=
  andThen (push16 s.cpu.pc s) fun t => finish 11 (t.setPc (n * 8))

/-! ## Jumps -/

/-- JMP addr, opcode 0xC3 (R293). -/
def execJmp (addr16 : Word) (s : State) : Host.Outcome State Fault Refusal := finish 10 (s.setPc addr16)

/-- JNZ addr, opcode 0xC2 (R294). -/
def execJnz (addr16 : Word) (s : State) : Host.Outcome State Fault Refusal := jumpIf .nz addr16 s

/-- JZ addr, opcode 0xCA (R295). -/
def execJz (addr16 : Word) (s : State) : Host.Outcome State Fault Refusal := jumpIf .z addr16 s

/-- JNC addr, opcode 0xD2 (R296). -/
def execJnc (addr16 : Word) (s : State) : Host.Outcome State Fault Refusal := jumpIf .nc addr16 s

/-- JC addr, opcode 0xDA (R297). -/
def execJc (addr16 : Word) (s : State) : Host.Outcome State Fault Refusal := jumpIf .c addr16 s

/-- JPO addr, opcode 0xE2 (R298). -/
def execJpo (addr16 : Word) (s : State) : Host.Outcome State Fault Refusal := jumpIf .po addr16 s

/-- JPE addr, opcode 0xEA (R299). -/
def execJpe (addr16 : Word) (s : State) : Host.Outcome State Fault Refusal := jumpIf .pe addr16 s

/-- JP addr, opcode 0xF2 (R300). -/
def execJp (addr16 : Word) (s : State) : Host.Outcome State Fault Refusal := jumpIf .p addr16 s

/-- JM addr, opcode 0xFA (R301). -/
def execJm (addr16 : Word) (s : State) : Host.Outcome State Fault Refusal := jumpIf .m addr16 s

/-! ## Calls -/

/-- CALL addr, opcode 0xCD (R302). -/
def execCall (addr16 : Word) (s : State) : Host.Outcome State Fault Refusal := callTo addr16 s

/-- CNZ addr, opcode 0xC4 (R303). -/
def execCnz (addr16 : Word) (s : State) : Host.Outcome State Fault Refusal := callIf .nz addr16 s

/-- CZ addr, opcode 0xCC (R304). -/
def execCz (addr16 : Word) (s : State) : Host.Outcome State Fault Refusal := callIf .z addr16 s

/-- CNC addr, opcode 0xD4 (R305). -/
def execCnc (addr16 : Word) (s : State) : Host.Outcome State Fault Refusal := callIf .nc addr16 s

/-- CC addr, opcode 0xDC (R306). -/
def execCc (addr16 : Word) (s : State) : Host.Outcome State Fault Refusal := callIf .c addr16 s

/-- CPO addr, opcode 0xE4 (R307). -/
def execCpo (addr16 : Word) (s : State) : Host.Outcome State Fault Refusal := callIf .po addr16 s

/-- CPE addr, opcode 0xEC (R308). -/
def execCpe (addr16 : Word) (s : State) : Host.Outcome State Fault Refusal := callIf .pe addr16 s

/-- CP addr, opcode 0xF4 (R309). -/
def execCp (addr16 : Word) (s : State) : Host.Outcome State Fault Refusal := callIf .p addr16 s

/-- CM addr, opcode 0xFC (R310). -/
def execCm (addr16 : Word) (s : State) : Host.Outcome State Fault Refusal := callIf .m addr16 s

/-! ## Returns -/

/-- RET, opcode 0xC9 (R311). -/
def execRet (s : State) : Host.Outcome State Fault Refusal := andThen (returnFromStack s) (finish 10)

/-- RNZ, opcode 0xC0 (R312). -/
def execRnz (s : State) : Host.Outcome State Fault Refusal := retIf .nz s

/-- RZ, opcode 0xC8 (R313). -/
def execRz (s : State) : Host.Outcome State Fault Refusal := retIf .z s

/-- RNC, opcode 0xD0 (R314). -/
def execRnc (s : State) : Host.Outcome State Fault Refusal := retIf .nc s

/-- RC, opcode 0xD8 (R315). -/
def execRc (s : State) : Host.Outcome State Fault Refusal := retIf .c s

/-- RPO, opcode 0xE0 (R316). -/
def execRpo (s : State) : Host.Outcome State Fault Refusal := retIf .po s

/-- RPE, opcode 0xE8 (R317). -/
def execRpe (s : State) : Host.Outcome State Fault Refusal := retIf .pe s

/-- RP, opcode 0xF0 (R318). -/
def execRp (s : State) : Host.Outcome State Fault Refusal := retIf .p s

/-- RM, opcode 0xF8 (R319). -/
def execRm (s : State) : Host.Outcome State Fault Refusal := retIf .m s

/-! ## Restart and indirect jump -/

/-- RST 0, opcode 0xC7 (R320). -/
def execRst0 (s : State) : Host.Outcome State Fault Refusal := restart 0 s

/-- RST 1, opcode 0xCF (R320). -/
def execRst1 (s : State) : Host.Outcome State Fault Refusal := restart 1 s

/-- RST 2, opcode 0xD7 (R320). -/
def execRst2 (s : State) : Host.Outcome State Fault Refusal := restart 2 s

/-- RST 3, opcode 0xDF (R320). -/
def execRst3 (s : State) : Host.Outcome State Fault Refusal := restart 3 s

/-- RST 4, opcode 0xE7 (R320). -/
def execRst4 (s : State) : Host.Outcome State Fault Refusal := restart 4 s

/-- RST 5, opcode 0xEF (R320). -/
def execRst5 (s : State) : Host.Outcome State Fault Refusal := restart 5 s

/-- RST 6, opcode 0xF7 (R320). -/
def execRst6 (s : State) : Host.Outcome State Fault Refusal := restart 6 s

/-- RST 7, opcode 0xFF (R320). -/
def execRst7 (s : State) : Host.Outcome State Fault Refusal := restart 7 s

/-- PCHL, opcode 0xE9 (R321). -/
def execPchl (s : State) : Host.Outcome State Fault Refusal := finish 5 (s.setPc s.hl)

end Sys2Proof.Machine
end

