-- ==== Sys2Proof/Machine/Control.lean ====
section
/-! DEFINITION. 46_control.md: EI, DI, HLT, NOP. -/

namespace Sys2Proof.Machine



/-- EI, opcode 0xFB (R360). -/
def execEi (s : State) : Host.Outcome State Fault Refusal := finish 4 (s.setIe true)

/-- DI, opcode 0xF3 (R361). -/
def execDi (s : State) : Host.Outcome State Fault Refusal := finish 4 (s.setIe false)

/-- HLT, opcode 0x76 (R362). -/
def execHlt (s : State) : Host.Outcome State Fault Refusal := finish 7 (if s.cpu.ie then s else s.setActive false)

/-- NOP, opcode 0x00 (R363). -/
def execNop (s : State) : Host.Outcome State Fault Refusal := finish 4 s

end Sys2Proof.Machine
end

