-- ==== Sys2Proof/Machine/DataTransfer.lean ====
section
/-! DEFINITION. 40_data_transfer.md: MOV, MVI, LXI, LDA, STA, LHLD, SHLD, LDAX, STAX, XCHG. No instruction here writes a flag. -/

namespace Sys2Proof.Machine

/-- `x[d] <- x[s]` (R140). -/
def movRegReg (dst src : Reg) (s : State) : Host.Outcome State Fault Refusal := finish 5 (s.setReg dst (s.reg src))

/-- `x[d] <- MemRead(HL, 1)` (R141). -/
def movRegMem (dst : Reg) (s : State) : Host.Outcome State Fault Refusal :=
  andThen (readM s) fun v => finish 7 (s.setReg dst v)

/-- `MemWrite(HL, 1, x[s])` (R142). -/
def movMemReg (src : Reg) (s : State) : Host.Outcome State Fault Refusal := andThen (writeM (s.reg src) s) (finish 7)

/-- `x[d] <- data8` (R143). -/
def mviReg (dst : Reg) (v : Byte) (s : State) : Host.Outcome State Fault Refusal := finish 7 (s.setReg dst v)

/-- `rp[p] <- data16` (R145). -/
def lxiPair (p : Pair) (w : Word) (s : State) : Host.Outcome State Fault Refusal := finish 10 (s.setPair p w)

/-- `A <- MemRead(addr, 1)` (R146, R150). -/
def loadA (n : Nat) (addr : Word) (s : State) : Host.Outcome State Fault Refusal :=
  andThen (memRead1 addr s) fun v => finish n (s.setReg .a v)

/-- `MemWrite(addr, 1, A)` (R147, R151). -/
def storeA (n : Nat) (addr : Word) (s : State) : Host.Outcome State Fault Refusal :=
  andThen (memWrite1 addr (s.reg .a) s) (finish n)

/-! ## MOV -/

/-- MOV B,B, opcode 0x40 (R140). -/
def execMovBB (s : State) : Host.Outcome State Fault Refusal := movRegReg .b .b s

/-- MOV B,C, opcode 0x41 (R140). -/
def execMovBC (s : State) : Host.Outcome State Fault Refusal := movRegReg .b .c s

/-- MOV B,D, opcode 0x42 (R140). -/
def execMovBD (s : State) : Host.Outcome State Fault Refusal := movRegReg .b .d s

/-- MOV B,E, opcode 0x43 (R140). -/
def execMovBE (s : State) : Host.Outcome State Fault Refusal := movRegReg .b .e s

/-- MOV B,H, opcode 0x44 (R140). -/
def execMovBH (s : State) : Host.Outcome State Fault Refusal := movRegReg .b .h s

/-- MOV B,L, opcode 0x45 (R140). -/
def execMovBL (s : State) : Host.Outcome State Fault Refusal := movRegReg .b .l s

/-- MOV B,A, opcode 0x47 (R140). -/
def execMovBA (s : State) : Host.Outcome State Fault Refusal := movRegReg .b .a s

/-- MOV C,B, opcode 0x48 (R140). -/
def execMovCB (s : State) : Host.Outcome State Fault Refusal := movRegReg .c .b s

/-- MOV C,C, opcode 0x49 (R140). -/
def execMovCC (s : State) : Host.Outcome State Fault Refusal := movRegReg .c .c s

/-- MOV C,D, opcode 0x4A (R140). -/
def execMovCD (s : State) : Host.Outcome State Fault Refusal := movRegReg .c .d s

/-- MOV C,E, opcode 0x4B (R140). -/
def execMovCE (s : State) : Host.Outcome State Fault Refusal := movRegReg .c .e s

/-- MOV C,H, opcode 0x4C (R140). -/
def execMovCH (s : State) : Host.Outcome State Fault Refusal := movRegReg .c .h s

/-- MOV C,L, opcode 0x4D (R140). -/
def execMovCL (s : State) : Host.Outcome State Fault Refusal := movRegReg .c .l s

/-- MOV C,A, opcode 0x4F (R140). -/
def execMovCA (s : State) : Host.Outcome State Fault Refusal := movRegReg .c .a s

/-- MOV D,B, opcode 0x50 (R140). -/
def execMovDB (s : State) : Host.Outcome State Fault Refusal := movRegReg .d .b s

/-- MOV D,C, opcode 0x51 (R140). -/
def execMovDC (s : State) : Host.Outcome State Fault Refusal := movRegReg .d .c s

/-- MOV D,D, opcode 0x52 (R140). -/
def execMovDD (s : State) : Host.Outcome State Fault Refusal := movRegReg .d .d s

/-- MOV D,E, opcode 0x53 (R140). -/
def execMovDE (s : State) : Host.Outcome State Fault Refusal := movRegReg .d .e s

/-- MOV D,H, opcode 0x54 (R140). -/
def execMovDH (s : State) : Host.Outcome State Fault Refusal := movRegReg .d .h s

/-- MOV D,L, opcode 0x55 (R140). -/
def execMovDL (s : State) : Host.Outcome State Fault Refusal := movRegReg .d .l s

/-- MOV D,A, opcode 0x57 (R140). -/
def execMovDA (s : State) : Host.Outcome State Fault Refusal := movRegReg .d .a s

/-- MOV E,B, opcode 0x58 (R140). -/
def execMovEB (s : State) : Host.Outcome State Fault Refusal := movRegReg .e .b s

/-- MOV E,C, opcode 0x59 (R140). -/
def execMovEC (s : State) : Host.Outcome State Fault Refusal := movRegReg .e .c s

/-- MOV E,D, opcode 0x5A (R140). -/
def execMovED (s : State) : Host.Outcome State Fault Refusal := movRegReg .e .d s

/-- MOV E,E, opcode 0x5B (R140). -/
def execMovEE (s : State) : Host.Outcome State Fault Refusal := movRegReg .e .e s

/-- MOV E,H, opcode 0x5C (R140). -/
def execMovEH (s : State) : Host.Outcome State Fault Refusal := movRegReg .e .h s

/-- MOV E,L, opcode 0x5D (R140). -/
def execMovEL (s : State) : Host.Outcome State Fault Refusal := movRegReg .e .l s

/-- MOV E,A, opcode 0x5F (R140). -/
def execMovEA (s : State) : Host.Outcome State Fault Refusal := movRegReg .e .a s

/-- MOV H,B, opcode 0x60 (R140). -/
def execMovHB (s : State) : Host.Outcome State Fault Refusal := movRegReg .h .b s

/-- MOV H,C, opcode 0x61 (R140). -/
def execMovHC (s : State) : Host.Outcome State Fault Refusal := movRegReg .h .c s

/-- MOV H,D, opcode 0x62 (R140). -/
def execMovHD (s : State) : Host.Outcome State Fault Refusal := movRegReg .h .d s

/-- MOV H,E, opcode 0x63 (R140). -/
def execMovHE (s : State) : Host.Outcome State Fault Refusal := movRegReg .h .e s

/-- MOV H,H, opcode 0x64 (R140). -/
def execMovHH (s : State) : Host.Outcome State Fault Refusal := movRegReg .h .h s

/-- MOV H,L, opcode 0x65 (R140). -/
def execMovHL (s : State) : Host.Outcome State Fault Refusal := movRegReg .h .l s

/-- MOV H,A, opcode 0x67 (R140). -/
def execMovHA (s : State) : Host.Outcome State Fault Refusal := movRegReg .h .a s

/-- MOV L,B, opcode 0x68 (R140). -/
def execMovLB (s : State) : Host.Outcome State Fault Refusal := movRegReg .l .b s

/-- MOV L,C, opcode 0x69 (R140). -/
def execMovLC (s : State) : Host.Outcome State Fault Refusal := movRegReg .l .c s

/-- MOV L,D, opcode 0x6A (R140). -/
def execMovLD (s : State) : Host.Outcome State Fault Refusal := movRegReg .l .d s

/-- MOV L,E, opcode 0x6B (R140). -/
def execMovLE (s : State) : Host.Outcome State Fault Refusal := movRegReg .l .e s

/-- MOV L,H, opcode 0x6C (R140). -/
def execMovLH (s : State) : Host.Outcome State Fault Refusal := movRegReg .l .h s

/-- MOV L,L, opcode 0x6D (R140). -/
def execMovLL (s : State) : Host.Outcome State Fault Refusal := movRegReg .l .l s

/-- MOV L,A, opcode 0x6F (R140). -/
def execMovLA (s : State) : Host.Outcome State Fault Refusal := movRegReg .l .a s

/-- MOV A,B, opcode 0x78 (R140). -/
def execMovAB (s : State) : Host.Outcome State Fault Refusal := movRegReg .a .b s

/-- MOV A,C, opcode 0x79 (R140). -/
def execMovAC (s : State) : Host.Outcome State Fault Refusal := movRegReg .a .c s

/-- MOV A,D, opcode 0x7A (R140). -/
def execMovAD (s : State) : Host.Outcome State Fault Refusal := movRegReg .a .d s

/-- MOV A,E, opcode 0x7B (R140). -/
def execMovAE (s : State) : Host.Outcome State Fault Refusal := movRegReg .a .e s

/-- MOV A,H, opcode 0x7C (R140). -/
def execMovAH (s : State) : Host.Outcome State Fault Refusal := movRegReg .a .h s

/-- MOV A,L, opcode 0x7D (R140). -/
def execMovAL (s : State) : Host.Outcome State Fault Refusal := movRegReg .a .l s

/-- MOV A,A, opcode 0x7F (R140). -/
def execMovAA (s : State) : Host.Outcome State Fault Refusal := movRegReg .a .a s

/-- MOV B,M, opcode 0x46 (R141). -/
def execMovBM (s : State) : Host.Outcome State Fault Refusal := movRegMem .b s

/-- MOV C,M, opcode 0x4E (R141). -/
def execMovCM (s : State) : Host.Outcome State Fault Refusal := movRegMem .c s

/-- MOV D,M, opcode 0x56 (R141). -/
def execMovDM (s : State) : Host.Outcome State Fault Refusal := movRegMem .d s

/-- MOV E,M, opcode 0x5E (R141). -/
def execMovEM (s : State) : Host.Outcome State Fault Refusal := movRegMem .e s

/-- MOV H,M, opcode 0x66 (R141). -/
def execMovHM (s : State) : Host.Outcome State Fault Refusal := movRegMem .h s

/-- MOV L,M, opcode 0x6E (R141). -/
def execMovLM (s : State) : Host.Outcome State Fault Refusal := movRegMem .l s

/-- MOV A,M, opcode 0x7E (R141). -/
def execMovAM (s : State) : Host.Outcome State Fault Refusal := movRegMem .a s

/-- MOV M,B, opcode 0x70 (R142). -/
def execMovMB (s : State) : Host.Outcome State Fault Refusal := movMemReg .b s

/-- MOV M,C, opcode 0x71 (R142). -/
def execMovMC (s : State) : Host.Outcome State Fault Refusal := movMemReg .c s

/-- MOV M,D, opcode 0x72 (R142). -/
def execMovMD (s : State) : Host.Outcome State Fault Refusal := movMemReg .d s

/-- MOV M,E, opcode 0x73 (R142). -/
def execMovME (s : State) : Host.Outcome State Fault Refusal := movMemReg .e s

/-- MOV M,H, opcode 0x74 (R142). -/
def execMovMH (s : State) : Host.Outcome State Fault Refusal := movMemReg .h s

/-- MOV M,L, opcode 0x75 (R142). -/
def execMovML (s : State) : Host.Outcome State Fault Refusal := movMemReg .l s

/-- MOV M,A, opcode 0x77 (R142). -/
def execMovMA (s : State) : Host.Outcome State Fault Refusal := movMemReg .a s

/-! ## Immediate loads -/

/-- MVI B,data, opcode 0x06 (R143). -/
def execMviB (data8 : Byte) (s : State) : Host.Outcome State Fault Refusal := mviReg .b data8 s

/-- MVI C,data, opcode 0x0E (R143). -/
def execMviC (data8 : Byte) (s : State) : Host.Outcome State Fault Refusal := mviReg .c data8 s

/-- MVI D,data, opcode 0x16 (R143). -/
def execMviD (data8 : Byte) (s : State) : Host.Outcome State Fault Refusal := mviReg .d data8 s

/-- MVI E,data, opcode 0x1E (R143). -/
def execMviE (data8 : Byte) (s : State) : Host.Outcome State Fault Refusal := mviReg .e data8 s

/-- MVI H,data, opcode 0x26 (R143). -/
def execMviH (data8 : Byte) (s : State) : Host.Outcome State Fault Refusal := mviReg .h data8 s

/-- MVI L,data, opcode 0x2E (R143). -/
def execMviL (data8 : Byte) (s : State) : Host.Outcome State Fault Refusal := mviReg .l data8 s

/-- MVI A,data, opcode 0x3E (R143). -/
def execMviA (data8 : Byte) (s : State) : Host.Outcome State Fault Refusal := mviReg .a data8 s

/-- MVI M,data, opcode 0x36 (R144). -/
def execMviM (data8 : Byte) (s : State) : Host.Outcome State Fault Refusal := andThen (writeM data8 s) (finish 10)

/-- LXI B,data16, opcode 0x01 (R145). -/
def execLxiB (data16 : Word) (s : State) : Host.Outcome State Fault Refusal := lxiPair .bc data16 s

/-- LXI D,data16, opcode 0x11 (R145). -/
def execLxiD (data16 : Word) (s : State) : Host.Outcome State Fault Refusal := lxiPair .de data16 s

/-- LXI H,data16, opcode 0x21 (R145). -/
def execLxiH (data16 : Word) (s : State) : Host.Outcome State Fault Refusal := lxiPair .hl data16 s

/-- LXI SP,data16, opcode 0x31 (R145). -/
def execLxiSp (data16 : Word) (s : State) : Host.Outcome State Fault Refusal := lxiPair .sp data16 s

/-! ## Direct and indirect loads and stores -/

/-- LDA addr, opcode 0x3A (R146). -/
def execLda (addr16 : Word) (s : State) : Host.Outcome State Fault Refusal := loadA 13 addr16 s

/-- STA addr, opcode 0x32 (R147). -/
def execSta (addr16 : Word) (s : State) : Host.Outcome State Fault Refusal := storeA 13 addr16 s

/-- LHLD addr, opcode 0x2A (R148). -/
def execLhld (addr16 : Word) (s : State) : Host.Outcome State Fault Refusal := andThen (memRead2 addr16 s) fun v => finish 16 (s.setPair .hl v)

/-- SHLD addr, opcode 0x22 (R149). -/
def execShld (addr16 : Word) (s : State) : Host.Outcome State Fault Refusal := andThen (memWrite2 addr16 s.hl s) (finish 16)

/-- LDAX B, opcode 0x0A (R150). -/
def execLdaxB (s : State) : Host.Outcome State Fault Refusal := loadA 7 (s.pair .bc) s

/-- STAX B, opcode 0x02 (R151). -/
def execStaxB (s : State) : Host.Outcome State Fault Refusal := storeA 7 (s.pair .bc) s

/-- LDAX D, opcode 0x1A (R150). -/
def execLdaxD (s : State) : Host.Outcome State Fault Refusal := loadA 7 (s.pair .de) s

/-- STAX D, opcode 0x12 (R151). -/
def execStaxD (s : State) : Host.Outcome State Fault Refusal := storeA 7 (s.pair .de) s

/-! ## Exchange -/

/-- XCHG, opcode 0xEB (R152). -/
def execXchg (s : State) : Host.Outcome State Fault Refusal := finish 4 ((s.setPair .hl (s.pair .de)).setPair .de (s.pair .hl))

end Sys2Proof.Machine
end

