-- ==== Sys2Proof/Machine/InputOutput.lean ====
section
/-! DEFINITION. 45_io.md: IN, OUT. -/

namespace Sys2Proof.Machine



/-- IN port, opcode 0xDB (R350). -/
def execInPort (port8 : Byte) (s : State) : Host.Outcome State Fault Refusal := andThen (portIn port8 s) fun r => finish 10 (r.2.setReg .a r.1)

/-- OUT port, opcode 0xD3 (R351). -/
def execOutPort (port8 : Byte) (s : State) : Host.Outcome State Fault Refusal := andThen (portOut port8 (s.reg .a) s) (finish 10)

end Sys2Proof.Machine
end

