-- ==== Sys2Proof/Machine/Logical.lean ====
section
/-! DEFINITION. 42_logical.md: ANA, XRA, ORA, CMP and their immediate forms, the rotates, CMA, CMC, STC. -/

namespace Sys2Proof.Machine

/-- CY alone written (R248, R249). -/
def setCarry (v : Bool) (s : State) : State := s.setFlags { s.cpu.flags with cy := v }

/-! ## ANA and ANI -/

/-- ANA B, opcode 0xA0 (R231). -/
def execAnaB (s : State) : Host.Outcome State Fault Refusal := aluReg .ana .b s

/-- ANA C, opcode 0xA1 (R231). -/
def execAnaC (s : State) : Host.Outcome State Fault Refusal := aluReg .ana .c s

/-- ANA D, opcode 0xA2 (R231). -/
def execAnaD (s : State) : Host.Outcome State Fault Refusal := aluReg .ana .d s

/-- ANA E, opcode 0xA3 (R231). -/
def execAnaE (s : State) : Host.Outcome State Fault Refusal := aluReg .ana .e s

/-- ANA H, opcode 0xA4 (R231). -/
def execAnaH (s : State) : Host.Outcome State Fault Refusal := aluReg .ana .h s

/-- ANA L, opcode 0xA5 (R231). -/
def execAnaL (s : State) : Host.Outcome State Fault Refusal := aluReg .ana .l s

/-- ANA A, opcode 0xA7 (R231). -/
def execAnaA (s : State) : Host.Outcome State Fault Refusal := aluReg .ana .a s

/-- ANA M, opcode 0xA6 (R232). -/
def execAnaM (s : State) : Host.Outcome State Fault Refusal := aluMem .ana s

/-- ANI data, opcode 0xE6 (R233). -/
def execAni (data8 : Byte) (s : State) : Host.Outcome State Fault Refusal := aluImm .ana data8 s

/-! ## XRA and XRI -/

/-- XRA B, opcode 0xA8 (R234). -/
def execXraB (s : State) : Host.Outcome State Fault Refusal := aluReg .xra .b s

/-- XRA C, opcode 0xA9 (R234). -/
def execXraC (s : State) : Host.Outcome State Fault Refusal := aluReg .xra .c s

/-- XRA D, opcode 0xAA (R234). -/
def execXraD (s : State) : Host.Outcome State Fault Refusal := aluReg .xra .d s

/-- XRA E, opcode 0xAB (R234). -/
def execXraE (s : State) : Host.Outcome State Fault Refusal := aluReg .xra .e s

/-- XRA H, opcode 0xAC (R234). -/
def execXraH (s : State) : Host.Outcome State Fault Refusal := aluReg .xra .h s

/-- XRA L, opcode 0xAD (R234). -/
def execXraL (s : State) : Host.Outcome State Fault Refusal := aluReg .xra .l s

/-- XRA A, opcode 0xAF (R234). -/
def execXraA (s : State) : Host.Outcome State Fault Refusal := aluReg .xra .a s

/-- XRA M, opcode 0xAE (R235). -/
def execXraM (s : State) : Host.Outcome State Fault Refusal := aluMem .xra s

/-- XRI data, opcode 0xEE (R236). -/
def execXri (data8 : Byte) (s : State) : Host.Outcome State Fault Refusal := aluImm .xra data8 s

/-! ## ORA and ORI -/

/-- ORA B, opcode 0xB0 (R237). -/
def execOraB (s : State) : Host.Outcome State Fault Refusal := aluReg .ora .b s

/-- ORA C, opcode 0xB1 (R237). -/
def execOraC (s : State) : Host.Outcome State Fault Refusal := aluReg .ora .c s

/-- ORA D, opcode 0xB2 (R237). -/
def execOraD (s : State) : Host.Outcome State Fault Refusal := aluReg .ora .d s

/-- ORA E, opcode 0xB3 (R237). -/
def execOraE (s : State) : Host.Outcome State Fault Refusal := aluReg .ora .e s

/-- ORA H, opcode 0xB4 (R237). -/
def execOraH (s : State) : Host.Outcome State Fault Refusal := aluReg .ora .h s

/-- ORA L, opcode 0xB5 (R237). -/
def execOraL (s : State) : Host.Outcome State Fault Refusal := aluReg .ora .l s

/-- ORA A, opcode 0xB7 (R237). -/
def execOraA (s : State) : Host.Outcome State Fault Refusal := aluReg .ora .a s

/-- ORA M, opcode 0xB6 (R238). -/
def execOraM (s : State) : Host.Outcome State Fault Refusal := aluMem .ora s

/-- ORI data, opcode 0xF6 (R239). -/
def execOri (data8 : Byte) (s : State) : Host.Outcome State Fault Refusal := aluImm .ora data8 s

/-! ## CMP and CPI -/

/-- CMP B, opcode 0xB8 (R240). -/
def execCmpB (s : State) : Host.Outcome State Fault Refusal := aluReg .cmp .b s

/-- CMP C, opcode 0xB9 (R240). -/
def execCmpC (s : State) : Host.Outcome State Fault Refusal := aluReg .cmp .c s

/-- CMP D, opcode 0xBA (R240). -/
def execCmpD (s : State) : Host.Outcome State Fault Refusal := aluReg .cmp .d s

/-- CMP E, opcode 0xBB (R240). -/
def execCmpE (s : State) : Host.Outcome State Fault Refusal := aluReg .cmp .e s

/-- CMP H, opcode 0xBC (R240). -/
def execCmpH (s : State) : Host.Outcome State Fault Refusal := aluReg .cmp .h s

/-- CMP L, opcode 0xBD (R240). -/
def execCmpL (s : State) : Host.Outcome State Fault Refusal := aluReg .cmp .l s

/-- CMP A, opcode 0xBF (R240). -/
def execCmpA (s : State) : Host.Outcome State Fault Refusal := aluReg .cmp .a s

/-- CMP M, opcode 0xBE (R241). -/
def execCmpM (s : State) : Host.Outcome State Fault Refusal := aluMem .cmp s

/-- CPI data, opcode 0xFE (R242). -/
def execCpi (data8 : Byte) (s : State) : Host.Outcome State Fault Refusal := aluImm .cmp data8 s

/-! ## Rotates -/

/-- RLC, opcode 0x07 (R243). -/
def execRlc (s : State) : Host.Outcome State Fault Refusal := accumulatorOp rotateLeft s

/-- RRC, opcode 0x0F (R244). -/
def execRrc (s : State) : Host.Outcome State Fault Refusal := accumulatorOp rotateRight s

/-- RAL, opcode 0x17 (R245). -/
def execRal (s : State) : Host.Outcome State Fault Refusal := accumulatorOp rotateLeftThroughCarry s

/-- RAR, opcode 0x1F (R246). -/
def execRar (s : State) : Host.Outcome State Fault Refusal := accumulatorOp rotateRightThroughCarry s

/-! ## Complement and carry -/

/-- CMA, opcode 0x2F (R247). -/
def execCma (s : State) : Host.Outcome State Fault Refusal := finish 4 (s.setReg .a (~~~(s.reg .a)))

/-- CMC, opcode 0x3F (R248). -/
def execCmc (s : State) : Host.Outcome State Fault Refusal := finish 4 (setCarry (!s.cpu.flags.cy) s)

/-- STC, opcode 0x37 (R249). -/
def execStc (s : State) : Host.Outcome State Fault Refusal := finish 4 (setCarry true s)

end Sys2Proof.Machine
end

