-- ==== Sys2Proof/Machine/Stack.lean ====
section
/-! DEFINITION. 43_stack.md: PUSH, POP, XTHL, SPHL. -/

namespace Sys2Proof.Machine

/-- `push16(rp[p])` (R273). -/
def pushPair (p : Pair) (s : State) : Host.Outcome State Fault Refusal := andThen (push16 (s.pair p) s) (finish 11)

/-- `rp[p] <- pop16()` (R275). -/
def popPair (p : Pair) (s : State) : Host.Outcome State Fault Refusal :=
  andThen (pop16 s) fun r => finish 10 (r.2.setPair p r.1)

/-- PUSH B, opcode 0xC5 (R273). -/
def execPushB (s : State) : Host.Outcome State Fault Refusal := pushPair .bc s

/-- PUSH D, opcode 0xD5 (R273). -/
def execPushD (s : State) : Host.Outcome State Fault Refusal := pushPair .de s

/-- PUSH H, opcode 0xE5 (R273). -/
def execPushH (s : State) : Host.Outcome State Fault Refusal := pushPair .hl s

/-- PUSH PSW, opcode 0xF5 (R274). -/
def execPushPsw (s : State) : Host.Outcome State Fault Refusal := andThen (push16 (concat (s.reg .a) (flagByte s.cpu.flags)) s) (finish 11)

/-- POP B, opcode 0xC1 (R275). -/
def execPopB (s : State) : Host.Outcome State Fault Refusal := popPair .bc s

/-- POP D, opcode 0xD1 (R275). -/
def execPopD (s : State) : Host.Outcome State Fault Refusal := popPair .de s

/-- POP H, opcode 0xE1 (R275). -/
def execPopH (s : State) : Host.Outcome State Fault Refusal := popPair .hl s

/-- POP PSW, opcode 0xF1 (R276). -/
def execPopPsw (s : State) : Host.Outcome State Fault Refusal := andThen (pop16 s) fun r => finish 10 ((r.2.setReg .a (highByte r.1)).setFlags (flagsOfByte (lowByte r.1)))

/-- XTHL, opcode 0xE3 (R277). -/
def execXthl (s : State) : Host.Outcome State Fault Refusal := andThen (memRead2 s.cpu.sp s) fun v => andThen (memWrite2 s.cpu.sp s.hl s) fun t => finish 18 (t.setPair .hl v)

/-- SPHL, opcode 0xF9 (R278). -/
def execSphl (s : State) : Host.Outcome State Fault Refusal := finish 5 (s.setSp s.hl)

end Sys2Proof.Machine
end

