-- ==== Sys2Proof/Machine/Undocumented.lean ====
section
/-! DEFINITION. 30_encoding.md R108: the twelve undocumented values. Each ends the step with IllegalOpcode; pc still is ipc, because the step raises it before fetch moves pc (R111; log 11). -/

namespace Sys2Proof.Machine

/-- `raise Fault(IllegalOpcode, {address: ipc, opcode})` (60_exceptions.md R381). -/
def illegal (op : Byte) (s : State) : Host.Outcome State Fault Refusal := .fault (.illegalOpcode s.cpu.pc op)

/-- (undocumented 0x08), opcode 0x08 (R108). -/
def execUndocumented08 (s : State) : Host.Outcome State Fault Refusal := illegal 0x08 s

/-- (undocumented 0x10), opcode 0x10 (R108). -/
def execUndocumented10 (s : State) : Host.Outcome State Fault Refusal := illegal 0x10 s

/-- (undocumented 0x18), opcode 0x18 (R108). -/
def execUndocumented18 (s : State) : Host.Outcome State Fault Refusal := illegal 0x18 s

/-- (undocumented 0x20), opcode 0x20 (R108). -/
def execUndocumented20 (s : State) : Host.Outcome State Fault Refusal := illegal 0x20 s

/-- (undocumented 0x28), opcode 0x28 (R108). -/
def execUndocumented28 (s : State) : Host.Outcome State Fault Refusal := illegal 0x28 s

/-- (undocumented 0x30), opcode 0x30 (R108). -/
def execUndocumented30 (s : State) : Host.Outcome State Fault Refusal := illegal 0x30 s

/-- (undocumented 0x38), opcode 0x38 (R108). -/
def execUndocumented38 (s : State) : Host.Outcome State Fault Refusal := illegal 0x38 s

/-- (undocumented 0xCB), opcode 0xCB (R108). -/
def execUndocumentedCB (s : State) : Host.Outcome State Fault Refusal := illegal 0xCB s

/-- (undocumented 0xD9), opcode 0xD9 (R108). -/
def execUndocumentedD9 (s : State) : Host.Outcome State Fault Refusal := illegal 0xD9 s

/-- (undocumented 0xDD), opcode 0xDD (R108). -/
def execUndocumentedDD (s : State) : Host.Outcome State Fault Refusal := illegal 0xDD s

/-- (undocumented 0xED), opcode 0xED (R108). -/
def execUndocumentedED (s : State) : Host.Outcome State Fault Refusal := illegal 0xED s

/-- (undocumented 0xFD), opcode 0xFD (R108). -/
def execUndocumentedFD (s : State) : Host.Outcome State Fault Refusal := illegal 0xFD s

end Sys2Proof.Machine
end

