-- ==== Sys2Proof/Machine/Execute.lean ====
section
/-! DEFINITION. The execute step: fetch, the trap hook and dispatch (30_encoding.md R111-R113). -/

namespace Sys2Proof.Machine

/-- The instruction at pc, with its length: the opcode byte, then the operand bytes it needs, in address order (R111). -/
def fetch (s : State) : Host.Outcome (Instr × Nat) Fault Refusal :=
  andThen (memRead1 s.cpu.pc s) fun op =>
    match instrLength op with
    | 1 => .next (decodeOpcode op 0 0, 1)
    | 2 => andThen (memRead1 (s.cpu.pc + 1) s) fun b2 => .next (decodeOpcode op b2 0, 2)
    | _ =>
      andThen (memRead1 (s.cpu.pc + 1) s) fun b2 =>
        andThen (memRead1 (s.cpu.pc + 2) s) fun b3 => .next (decodeOpcode op b2 b3, 3)

/-- The branch of R111 without a replacement: pc moves past the instruction, but not past an undocumented byte,
whose fault comes first. -/
def executeFetched (s : State) : Host.Outcome State Fault Refusal :=
  andThen (fetch s) fun r =>
    exec r.1 (if r.1.documented then s.setPc (s.cpu.pc + BitVec.ofNat 16 r.2) else s)

/-- The branch of R111 with a replacement: its bytes are decoded in place of memory's and pc stays ipc (R113).
Bytes past the instruction's length are unused; too few, or more than four, are refused (D26, log 4). -/
def executeReplacement (op : Byte) (rest : List Byte) (s : State) : Host.Outcome State Fault Refusal :=
  if replacementFits (op :: rest) then
    match decode (op :: rest) with
    | .ok (i, _) => exec i s
    | .error _ => .refused (.replacementTooShort op)
  else .refused (.replacementTooLong op)

/-- The four bytes the hook receives: memory at ipc, ipc+1, ipc+2 and ipc+3 modulo 2^16, read in order (R112). -/
def hookBytes (s : State) : Host.Outcome (List Byte) Fault Refusal :=
  andThen (memRead1 s.cpu.pc s) fun b0 =>
    andThen (memRead1 (s.cpu.pc + 1) s) fun b1 =>
      andThen (memRead1 (s.cpu.pc + 2) s) fun b2 =>
        andThen (memRead1 (s.cpu.pc + 3) s) fun b3 => .next [b0, b1, b2, b3]

/-- `execute()` with the hook TRAP of 00_scope.md R8 as an argument: a function from the snapshot of the CPU state and
the four bytes to the replacement, `[]` for none; `none` when the bus has no hook (R111, R112). -/
def executeWith (trap : Option (Cpu → List Byte → List Byte)) (s : State) : Host.Outcome State Fault Refusal :=
  if s.cpu.active then
    match trap with
    | none => executeFetched s
    | some hook =>
      andThen (hookBytes s) fun bytes =>
        match hook s.cpu bytes with
        | [] => executeFetched s
        | op :: rest => executeReplacement op rest s
  else .next (s.setResult .halted)

/-- `execute()` with the hook's answers in the state: an active core consumes one answer; after the last the hook
returns no replacement (log 3). -/
def execute (s : State) : Host.Outcome State Fault Refusal :=
  match s.cpu.active, s.hookAnswers with
  | true, some answers =>
    executeWith (some fun _ _ => answers.headD []) (s.setHookAnswers (some answers.tail))
  | _, _ => executeWith none s

end Sys2Proof.Machine
end

