-- ==== Sys2Proof/Machine/HostCalls.lean ====
section
/-! DEFINITION. The host's calls (60_exceptions.md R384-R388, R401), construction on a bus or from an image (70_reset_and_hazards.md R420, R421), and placing an
instruction where the next step fetches it (log 9). -/

namespace Sys2Proof.Machine

/-- `interrupt(code)`: IE is tested first (R385, D24); with IE = 1 an RST code is accepted (R386) and any other
code is refused (R387). DESIGN CHOICE (log 14): when the board does not service the push, the call ends in that access's bus
fault. -/
def interrupt (code : Byte) (s : State) : Host.Outcome State Fault Refusal :=
  if s.cpu.ie then
    if isRestartCode code then andThen (takeInterrupt code s) fun t => .next (t.setResult .interruptAccepted)
    else .refused (.nonRestartCode code)
  else .next (s.setResult .interruptMasked)

/-- `reset(vector)`: InvalidArgument for vector >= 8, else `interrupt(0xC7 | (vector << 3))` (R388), its bus fault
included (DESIGN CHOICE, log 14). -/
def resetVector (vector : Nat) (s : State) : Host.Outcome State Fault Refusal :=
  if vector < 8 then interrupt (0xC7 ||| (BitVec.ofNat 8 vector <<< 3)) s
  else .next (s.setResult .invalidArgument)

/-- Read-only inspection: the whole CPU state is returned and nothing changes (10_state.md R45). -/
def inspect (s : State) : Host.Outcome State Fault Refusal := .next (s.setResult (.inspected s.cpu))

/-- One call of the host; the last two are refused (R392). -/
def hostCall (c : HostCall) (s : State) : Host.Outcome State Fault Refusal :=
  match c with
  | .execute => execute s
  | .interrupt code => interrupt code s
  | .reset vector => resetVector vector s
  | .inspect => inspect s
  | .afterBusDestroyed => .refused .busDestroyed
  | .concurrent => .refused .concurrentCall

/-- The next call: the first of `calls`, or `execute` when the list is empty (log 2). -/
def serveHost (s : State) : Host.Outcome State Fault Refusal :=
  match s.calls with
  | [] => execute s
  | c :: rest => hostCall c (s.setCalls rest)

/-- The byte the cells of a supplied bus hold at an address: the first cell's, or what an unlisted address reads as. -/
def cellAt : List (Word × Byte) → Word → Byte
  | [], _ => Config.unlistedByte
  | cell :: rest, a => if a = cell.1 then cell.2 else cellAt rest a

/-- The byte a supplied bus holds at an address. -/
def Bus.byteAt (bus : Bus) (a : Word) : Byte := cellAt bus.cells a

/-- Cells loaded into an empty memory; of two with one address the first counts. -/
def Memory.load : List (Word × Byte) → Memory
  | [] => []
  | cell :: rest => (Memory.load rest).write cell.1.toNat cell.2

/-- `install(bus?)` (R420): the core in its reset state, bound to the supplied bus, whose memory "initially holds whatever
the bus holds" (R421); without one, to the built-in board. The host must keep the bus alive (R401): a call after it is
destroyed is `HostCall.afterBusDestroyed`. -/
def install (bus? : Option Bus) : State :=
  match bus? with
  | none => State.reset
  | some bus =>
    { State.reset with mem := Memory.load bus.cells, unserviced := bus.unserviced, hookAnswers := bus.hookAnswers }

/-- Construction "in the simplified variant" (R420) from a memory image placed at 0x0000 (R421); `none` is InvalidImage: the image is larger than
65536 bytes and no Machine exists (R384). -/
def construct (image : List Byte) : Option State :=
  if imageFits image then some (State.reset.setMem (Memory.writeBytes [] 0 image)) else none

/-- Is this access a read of one of the three bytes from `pc` on? -/
def isFetchRead (pc : Word) (x : Access) : Bool :=
  decide (x = .read pc) || decide (x = .read (pc + 1)) || decide (x = .read (pc + 2))

/-- The instruction with the table bits `w` stored at pc, and all that the very next step needs to fetch and run it:
an active core, no other host call first, no hook, the three bytes readable (log 9). -/
def placeFetchWord (s : State) (nbits w : Nat) : State :=
  { s with
    cpu := { s.cpu with active := true }
    mem := s.mem.writeBytes s.cpu.pc (tableBytes nbits w)
    unserviced := s.unserviced.filter fun x => !isFetchRead s.cpu.pc x
    hookAnswers := none
    calls := [] }

end Sys2Proof.Machine
end

