-- ==== Sys2Proof/Machine/Step.lean ====
section
/-! DEFINITION. One step of the machine: one call of the host (60_exceptions.md R389, R391). -/

namespace Sys2Proof.Machine

/-- One host call: `execute`, `interrupt` or `reset` (R401). -/
def step (s : State) : Host.Outcome State Fault Refusal := serveHost s

/-- The state whose very next step fetches and runs the instruction with the table bits `w` (log 9). -/
def State.withFetchWord (s : State) (nbits w : Nat) : State := placeFetchWord s nbits w

end Sys2Proof.Machine
end

