-- ==== Sys2Proof/Safety.lean ====
section
/-! DEFINITION. The terms claims are stated in: the invariant, safe runs, frames, what a store leaves, results in plain
arithmetic, and the tables of the spec that classify opcodes. -/

namespace Sys2Proof.Safety

open Sys2Proof.Machine

/-! ## The invariant and safe runs -/

/-- Memory is canonical (log 7), and `active = 0` implies `IE = 0` (10_state.md R44). -/
def Inv (s : State) : Prop := s.mem.wf = true ∧ (s.cpu.active = false → s.cpu.ie = false)

/-- A safe step ends in a state: no fault and no refusal. -/
def SafeStep (s : State) : Prop := ∃ t, step s = .next t

/-- A safe run of `n` steps. -/
def SafeRun (n : Nat) (s : State) : Prop := ∃ t, Host.Core.run core n s = .next t

/-- The conforming board of 92_eei_decisions.md D20: every access is serviced. -/
def AllServiced (s : State) : Prop := s.unserviced = []

/-- The core has halted for good (60_exceptions.md R399): `active = 0` and `IE = 0`. -/
def HaltedForGood (s : State) : Prop := s.cpu.active = false ∧ s.cpu.ie = false

/-- No call to come is one that R392 refuses whatever the state: on a destroyed bus, or concurrent with another. -/
def OnlyOrderlyCalls (s : State) : Prop := HostCall.afterBusDestroyed ∉ s.calls ∧ HostCall.concurrent ∉ s.calls

/-! ## Frames -/

/-- What an instruction may change: the registers listed and the parts marked `true`. -/
structure Frame where
  regs : List Reg := []
  sp : Bool := false
  pc : Bool := false
  flags : Bool := false
  ie : Bool := false
  active : Bool := false
  mem : Bool := false
  history : Bool := false

/-- Everything outside the frame is unchanged; the board, the hook's answers and the host's calls always are. -/
def Frame.keeps (f : Frame) (s t : State) : Prop :=
  (∀ r, r ∉ f.regs → t.reg r = s.reg r) ∧
  (f.sp = false → t.cpu.sp = s.cpu.sp) ∧
  (f.pc = false → t.cpu.pc = s.cpu.pc) ∧
  (f.flags = false → t.cpu.flags = s.cpu.flags) ∧
  (f.ie = false → t.cpu.ie = s.cpu.ie) ∧
  (f.active = false → t.cpu.active = s.cpu.active) ∧
  (f.mem = false → t.mem = s.mem) ∧
  (f.history = false → t.history = s.history) ∧
  t.unserviced = s.unserviced ∧ t.hookAnswers = s.hookAnswers ∧ t.calls = s.calls

/-- Executing `i` on the state that fetch left answers a next state that returns `n` cycles, changes nothing
outside the frame, and satisfies `post`. -/
def Completes (i : Instr) (s : State) (n : Nat) (f : Frame) (post : State → Prop) : Prop :=
  ∃ t, exec i s = .next t ∧ t.result = .cycles n ∧ f.keeps s t ∧ post t

/-- Executing `i` ends with the bus fault of access `x` (60_exceptions.md R382). -/
def BusFaults (i : Instr) (s : State) (x : Access) : Prop := exec i s = .fault (.busFault x)

/-- The host's next call is `execute`, and `u` is the state it is made on (log 2). -/
def NextIsExecute (s u : State) : Prop :=
  (s.calls = [] ∧ u = s) ∨ ∃ rest, s.calls = .execute :: rest ∧ u = s.setCalls rest

/-- The first `n` bytes of the instruction at pc are readable. -/
def Fetchable (s : State) (n : Nat) : Prop :=
  ∀ k, k < n → s.admits (.read (s.cpu.pc + BitVec.ofNat 16 k)) = true

/-- The first `n` bytes at pc. -/
def bytesAtPc (s : State) (n : Nat) : List Byte := (List.range n).map fun k => s.byteAt (s.cpu.pc + BitVec.ofNat 16 k)

/-! ## Memory in numbers -/

/-- The word at `a`, low byte first, its high byte at `a + 1` modulo 2^16 (20_memory.md R73). -/
def wordAt (s : State) (a : Word) : Nat := (s.byteAt a).toNat + 256 * (s.byteAt (a + 1)).toNat

/-- Exactly the byte at `a` is written, with `v`. -/
def StoresByte (s t : State) (a : Word) (v : Byte) : Prop :=
  t.byteAt a = v ∧ ∀ x, x ≠ a → t.byteAt x = s.byteAt x

/-- Exactly the bytes at `a` and `a + 1` are written, with the word `v`, low byte first. -/
def StoresWord (s t : State) (a : Word) (v : Nat) : Prop :=
  (t.byteAt a).toNat = v % 256 ∧ (t.byteAt (a + 1)).toNat = v / 256 ∧
  ∀ x, x ≠ a → x ≠ a + 1 → t.byteAt x = s.byteAt x

/-- The board services a read of the word at `a`. -/
def ReadableWord (s : State) (a : Word) : Prop := s.admits (.read a) = true ∧ s.admits (.read (a + 1)) = true

/-- The board services a write of the word `v` at `a`. -/
def WritableWord (s : State) (a : Word) (v : Word) : Prop :=
  s.admits (.write a (BitVec.ofNat 8 v.toNat)) = true ∧ s.admits (.write (a + 1) (BitVec.ofNat 8 (v.toNat / 256))) = true

/-- A read of the word at `a` that the board does not service in full: the first byte not serviced, low byte
first, is the fault (R81, R382). -/
def WordReadFaults (i : Instr) (s : State) (a : Word) : Prop :=
  (s.admits (.read a) = false → BusFaults i s (.read a)) ∧
  (s.admits (.read a) = true → s.admits (.read (a + 1)) = false → BusFaults i s (.read (a + 1)))

/-- A write of the word `v` at `a` that the board does not service in full. -/
def WordWriteFaults (i : Instr) (s : State) (a v : Word) : Prop :=
  (s.admits (.write a (BitVec.ofNat 8 v.toNat)) = false → BusFaults i s (.write a (BitVec.ofNat 8 v.toNat))) ∧
  (s.admits (.write a (BitVec.ofNat 8 v.toNat)) = true →
    s.admits (.write (a + 1) (BitVec.ofNat 8 (v.toNat / 256))) = false →
      BusFaults i s (.write (a + 1) (BitVec.ofNat 8 (v.toNat / 256))))

/-! ## Results in numbers -/

/-- Z, S and P of a result byte in plain arithmetic (41_arithmetic.md R180). -/
def ResultFlags (v : Byte) (f : Flags) : Prop :=
  (f.z = true ↔ v.toNat = 0) ∧ (f.s = true ↔ 128 ≤ v.toNat) ∧
  (f.p = true ↔ ((List.range 8).filter fun k => v.toNat.testBit k).length % 2 = 0)

/-- `r` and `f` are the sum of `a`, `x` and a carry `c` (R181). -/
def IsSum (a x c : Nat) (r : Byte) (f : Flags) : Prop :=
  r.toNat = (a + x + c) % 256 ∧ (f.cy = true ↔ 256 ≤ a + x + c) ∧ (f.ac = true ↔ 16 ≤ a % 16 + x % 16 + c) ∧
  ResultFlags r f

/-- `r` and `f` are the difference of `a`, `x` and a borrow `b` (R182). -/
def IsDifference (a x b : Nat) (r : Byte) (f : Flags) : Prop :=
  r.toNat = (a + 512 - x - b) % 256 ∧ (f.cy = true ↔ a < x + b) ∧ (f.ac = true ↔ x % 16 + b ≤ a % 16) ∧
  ResultFlags r f

/-- The pushed PSW: A, then S Z 0 AC 0 P 1 CY from bit 7 to bit 0 (10_state.md R41). -/
def pswValue (s : State) : Nat :=
  256 * (s.reg .a).toNat + 128 * s.cpu.flags.s.toNat + 64 * s.cpu.flags.z.toNat + 16 * s.cpu.flags.ac.toNat
    + 4 * s.cpu.flags.p.toNat + 2 + s.cpu.flags.cy.toNat

/-- `v` holds two decimal digits. -/
def IsBcd (v : Byte) : Prop := v.toNat / 16 ≤ 9 ∧ v.toNat % 16 ≤ 9

/-- The number two decimal digits stand for. -/
def bcdValue (v : Byte) : Nat := v.toNat / 16 * 10 + v.toNat % 16

/-! ## Operand codes (30_encoding.md R102-R107) -/

def regCode : Reg → Byte
  | .b => 0 | .c => 1 | .d => 2 | .e => 3 | .h => 4 | .l => 5 | .a => 7

def pairCode : Pair → Byte
  | .bc => 0 | .de => 1 | .hl => 2 | .sp => 3

def condCode : Cond → Byte
  | .nz => 0 | .z => 1 | .nc => 2 | .c => 3 | .po => 4 | .pe => 5 | .p => 6 | .m => 7

def aluCode : AluOp → Byte
  | .add => 0 | .adc => 1 | .sub => 2 | .sbb => 3 | .ana => 4 | .xra => 5 | .ora => 6 | .cmp => 7

/-- The low and high operand bytes of a 16-bit operand (R106). -/
def operandBytes (w : Word) : List Byte := [BitVec.ofNat 8 w.toNat, BitVec.ofNat 8 (w.toNat / 256)]

/-- What a condition tests (R104). -/
def CondHolds (code : Cond) (f : Flags) : Prop :=
  match code with
  | .nz => f.z = false
  | .z => f.z = true
  | .nc => f.cy = false
  | .c => f.cy = true
  | .po => f.p = false
  | .pe => f.p = true
  | .p => f.s = false
  | .m => f.s = true

/-! ## Tables -/

/-- The opcode values of formats D8 and P8 (R101, R107). -/
def twoByteOpcodes : List Byte :=
  [0x06, 0x0E, 0x16, 0x1E, 0x26, 0x2E, 0x36, 0x3E, 0xC6, 0xCE, 0xD6, 0xDE, 0xE6, 0xEE, 0xF6, 0xFE, 0xD3, 0xDB]

/-- The opcode values of formats D16 and A16 (R101, R107). -/
def threeByteOpcodes : List Byte :=
  [0x01, 0x11, 0x21, 0x31, 0x22, 0x2A, 0x32, 0x3A, 0xC2, 0xCA, 0xD2, 0xDA, 0xE2, 0xEA, 0xF2, 0xFA, 0xC3]
    ++ [0xC4, 0xCC, 0xD4, 0xDC, 0xE4, 0xEC, 0xF4, 0xFC, 0xCD]

/-- The length of the instruction with an opcode value (R100). -/
def formatLength (op : Byte) : Nat :=
  if op ∈ threeByteOpcodes then 3 else if op ∈ twoByteOpcodes then 2 else 1

/-- The opcode byte of an instruction. -/
def opcodeOf (i : Instr) : Byte := (encode i).headD 0

/-- The rows of 70_reset_and_hazards.md R440, high digit by high digit: cycles when the condition holds, and when it does not;
(0, 0) stands for `-`. -/
def cycleTable : List (Nat × Nat) :=
  [(4, 4), (10, 10), (7, 7), (5, 5), (5, 5), (5, 5), (7, 7), (4, 4), (0, 0), (10, 10), (7, 7), (5, 5), (5, 5), (5, 5), (7, 7), (4, 4)]
    ++ [(0, 0), (10, 10), (7, 7), (5, 5), (5, 5), (5, 5), (7, 7), (4, 4), (0, 0), (10, 10), (7, 7), (5, 5), (5, 5), (5, 5), (7, 7), (4, 4)]
    ++ [(0, 0), (10, 10), (16, 16), (5, 5), (5, 5), (5, 5), (7, 7), (4, 4), (0, 0), (10, 10), (16, 16), (5, 5), (5, 5), (5, 5), (7, 7), (4, 4)]
    ++ [(0, 0), (10, 10), (13, 13), (5, 5), (10, 10), (10, 10), (10, 10), (4, 4), (0, 0), (10, 10), (13, 13), (5, 5), (5, 5), (5, 5), (7, 7), (4, 4)]
    ++ [(5, 5), (5, 5), (5, 5), (5, 5), (5, 5), (5, 5), (7, 7), (5, 5), (5, 5), (5, 5), (5, 5), (5, 5), (5, 5), (5, 5), (7, 7), (5, 5)]
    ++ [(5, 5), (5, 5), (5, 5), (5, 5), (5, 5), (5, 5), (7, 7), (5, 5), (5, 5), (5, 5), (5, 5), (5, 5), (5, 5), (5, 5), (7, 7), (5, 5)]
    ++ [(5, 5), (5, 5), (5, 5), (5, 5), (5, 5), (5, 5), (7, 7), (5, 5), (5, 5), (5, 5), (5, 5), (5, 5), (5, 5), (5, 5), (7, 7), (5, 5)]
    ++ [(7, 7), (7, 7), (7, 7), (7, 7), (7, 7), (7, 7), (7, 7), (7, 7), (5, 5), (5, 5), (5, 5), (5, 5), (5, 5), (5, 5), (7, 7), (5, 5)]
    ++ [(4, 4), (4, 4), (4, 4), (4, 4), (4, 4), (4, 4), (7, 7), (4, 4), (4, 4), (4, 4), (4, 4), (4, 4), (4, 4), (4, 4), (7, 7), (4, 4)]
    ++ [(4, 4), (4, 4), (4, 4), (4, 4), (4, 4), (4, 4), (7, 7), (4, 4), (4, 4), (4, 4), (4, 4), (4, 4), (4, 4), (4, 4), (7, 7), (4, 4)]
    ++ [(4, 4), (4, 4), (4, 4), (4, 4), (4, 4), (4, 4), (7, 7), (4, 4), (4, 4), (4, 4), (4, 4), (4, 4), (4, 4), (4, 4), (7, 7), (4, 4)]
    ++ [(4, 4), (4, 4), (4, 4), (4, 4), (4, 4), (4, 4), (7, 7), (4, 4), (4, 4), (4, 4), (4, 4), (4, 4), (4, 4), (4, 4), (7, 7), (4, 4)]
    ++ [(11, 5), (10, 10), (10, 10), (10, 10), (17, 11), (11, 11), (7, 7), (11, 11), (11, 5), (10, 10), (10, 10), (0, 0), (17, 11), (17, 17), (7, 7), (11, 11)]
    ++ [(11, 5), (10, 10), (10, 10), (10, 10), (17, 11), (11, 11), (7, 7), (11, 11), (11, 5), (0, 0), (10, 10), (10, 10), (17, 11), (0, 0), (7, 7), (11, 11)]
    ++ [(11, 5), (10, 10), (10, 10), (18, 18), (17, 11), (11, 11), (7, 7), (11, 11), (11, 5), (5, 5), (10, 10), (4, 4), (17, 11), (0, 0), (7, 7), (11, 11)]
    ++ [(11, 5), (10, 10), (10, 10), (4, 4), (17, 11), (11, 11), (7, 7), (11, 11), (11, 5), (5, 5), (10, 10), (4, 4), (17, 11), (0, 0), (7, 7), (11, 11)]

/-- Whether the condition in bits 5:3 of an opcode holds (R104). -/
def conditionHolds (op : Byte) (f : Flags) : Bool :=
  [!f.z, f.z, !f.cy, f.cy, !f.p, f.p, !f.s, f.s].getD (op.toNat / 8 % 8) false

/-- The count R440 gives an opcode under some flags. -/
def tableCycles (op : Byte) (f : Flags) : Nat :=
  let row := cycleTable.getD op.toNat (0, 0)
  if conditionHolds op f then row.1 else row.2

/-- 10_state.md R39, rows 1, 2, 4 and 9: ADD to CMP and their immediate forms, DAA, POP PSW. -/
def writesAllFlags (op : Byte) : Bool :=
  (decide (0x80 ≤ op.toNat) && decide (op.toNat < 0xC0)) || decide (op &&& 0xC7 = 0xC6) || decide (op ∈ [0x27, 0xF1])

/-- R39, row 3: INR and DCR. -/
def writesAllButCarry (op : Byte) : Bool := decide (op &&& 0xC6 = 0x04)

/-- R39, rows 5 to 8: DAD, the rotates, STC, CMC. -/
def writesOnlyCarry (op : Byte) : Bool :=
  decide (op &&& 0xCF = 0x09) || decide (op ∈ [0x07, 0x0F, 0x17, 0x1F, 0x37, 0x3F])

/-- 20_memory.md R79: the documented opcodes that make a memory access after the fetch, on some flags. -/
def accessesMemory (op : Byte) : Bool :=
  decide (op ∈ [0x02, 0x12, 0x22, 0x32, 0x0A, 0x1A, 0x2A, 0x3A, 0x34, 0x35, 0x36, 0xE3, 0xCD, 0xC9]) ||
  (decide (op &&& 0xC0 = 0x40) && (decide (op &&& 0x07 = 0x06) || decide (op &&& 0x38 = 0x30)) && decide (op ≠ 0x76)) ||
  (decide (op &&& 0xC0 = 0x80) && decide (op &&& 0x07 = 0x06)) ||
  decide (op &&& 0xCF = 0xC1) || decide (op &&& 0xCF = 0xC5) ||
  decide (op &&& 0xC7 = 0xC7) || decide (op &&& 0xC7 = 0xC4) || decide (op &&& 0xC7 = 0xC0)

/-- R79: of those, the ones that write memory, on some flags. -/
def writesMemory (op : Byte) : Bool :=
  decide (op ∈ [0x02, 0x12, 0x22, 0x32, 0x34, 0x35, 0x36, 0xE3, 0xCD]) ||
  (decide (op &&& 0xF8 = 0x70) && decide (op ≠ 0x76)) ||
  decide (op &&& 0xCF = 0xC5) || decide (op &&& 0xC7 = 0xC7) || decide (op &&& 0xC7 = 0xC4)

/-- IN and OUT (20_memory.md R71). -/
def accessesPort (op : Byte) : Bool := decide (op ∈ [0xDB, 0xD3])

/-- 10_state.md R36: the documented opcodes that write SP, on some flags. -/
def writesSp (op : Byte) : Bool :=
  decide (op ∈ [0x31, 0x33, 0x3B, 0xF9, 0xCD, 0xC9]) ||
  decide (op &&& 0xCF = 0xC1) || decide (op &&& 0xCF = 0xC5) ||
  decide (op &&& 0xC7 = 0xC7) || decide (op &&& 0xC7 = 0xC4) || decide (op &&& 0xC7 = 0xC0)

end Sys2Proof.Safety
end

