-- ==== Sys2Proof/Certificates/Slice0/Obligations.lean ====
section
/-! DEFINITION. The statements for the provers, from the numbered rules of spec/ (OBLIGATIONS.json cites them). In the
statements about `exec`, `s` is the state that fetch left (30_encoding.md R114; log 11). `Completes i s n f post` says that
`i` answers a next state that returns `n` cycles, keeps all that the frame `f` does not name, and satisfies `post`. -/

open Sys2Proof Sys2Proof.Machine Sys2Proof.Safety

/-! ## Encoding -/

/-- Words written out from the patterns of R107, a few of each quadrant, decode to the instructions they stand for. -/
def Obligations.SpecWordsDecodeToTheirInstructions : Prop :=
  decode [0b01000001] = .ok (.movBC, []) ∧ decode [0b01110110] = .ok (.hlt, []) ∧
  decode [0b00000001, 0x34, 0x12] = .ok (.lxiB 0x1234, []) ∧ decode [0b00101011] = .ok (.dcxH, []) ∧
  decode [0b00110110, 0x99] = .ok (.mviM 0x99, []) ∧ decode [0b10011110] = .ok (.sbbM, []) ∧
  decode [0b11101010, 0x00, 0x10] = .ok (.jpe 0x1000, []) ∧ decode [0b11110101] = .ok (.pushPsw, []) ∧
  decode [0b11011011, 0x01] = .ok (.inPort 0x01, []) ∧ decode [0b11101111] = .ok (.rst5, []) ∧
  decode [0b11001011] = .ok (.undocumentedCB, [])

/-- Decoding the bytes of any row gives that row back, with every operand value, and leaves the bytes after it. -/
def Obligations.DecodeInvertsEncode : Prop :=
  ∀ (i : Instr) (rest : List Byte), decode (encode i ++ rest) = .ok (i, rest)

/-- Every byte sequence that decodes is the encoding of what it decodes to: no bit is dropped and no two encodings
stand for one instruction. -/
def Obligations.EncodeInvertsDecode : Prop :=
  ∀ (bytes : List Byte) (i : Instr) (rest : List Byte), decode bytes = .ok (i, rest) → encode i ++ rest = bytes

/-- The length is a function of the opcode byte alone, and decoding fails only for want of bytes (R100, R101, R110). -/
def Obligations.DecodeFailsOnlyOnMissingBytes : Prop :=
  ∀ bytes : List Byte,
    (decode bytes = .error .noBytes ↔ bytes = []) ∧
    (∀ op, decode bytes = .error (.truncated op) ↔ bytes.head? = some op ∧ bytes.length < formatLength op) ∧
    (∀ i rest, decode bytes = .ok (i, rest) → bytes.length = formatLength (opcodeOf i) + rest.length)

/-- Exactly the twelve values R108 lists are undocumented, whatever bytes follow. -/
def Obligations.TwelveOpcodesAreUndocumented : Prop :=
  ∀ op b2 b3 : Byte, (decodeOpcode op b2 b3).documented = false ↔
    op ∈ ([0x08, 0x10, 0x18, 0x20, 0x28, 0x30, 0x38, 0xCB, 0xD9, 0xDD, 0xED, 0xFD] : List Byte)

/-! ## The execute step -/

/-- When the bytes at pc decode to a documented instruction, the step of an active core without a hook is `exec` of it
with pc moved past its bytes (R111). -/
def Obligations.StepRunsTheDecodedInstruction : Prop :=
  ∀ (s u : State) (i : Instr) (rest : List Byte),
    NextIsExecute s u → s.cpu.active = true → s.hookAnswers = none →
    decode (bytesAtPc s 3) = .ok (i, rest) → i.documented = true → Fetchable s (encode i).length →
    step s = exec i (u.setPc (s.cpu.pc + BitVec.ofNat 16 (encode i).length))

/-- What a hook's answer does: `[]` leaves the step as without a hook; a replacement is executed in place of memory's
bytes with pc still ipc; one shorter than its instruction is refused (R112, R113, D26). -/
def Obligations.HookAnswersReplaceTheFetch : Prop :=
  ∀ (hook : Cpu → List Byte → List Byte) (s : State), s.cpu.active = true → Fetchable s 4 →
    (hook s.cpu (bytesAtPc s 4) = [] → executeWith (some hook) s = executeWith none s) ∧
    (∀ (op : Byte) (more : List Byte), hook s.cpu (bytesAtPc s 4) = op :: more → more.length ≤ 3 →
      (∀ i rest, decode (op :: more) = .ok (i, rest) → executeWith (some hook) s = exec i s) ∧
      (more.length + 1 < formatLength op → executeWith (some hook) s = .refused (.replacementTooShort op)))

/-- The list of answers in the state stands for any hook that gives the first of them on this snapshot (log 3). -/
def Obligations.HookAnswersStandForAnyHook : Prop :=
  ∀ (hook : Cpu → List Byte → List Byte) (s u : State) (answer : List Byte) (answers : List (List Byte)),
    NextIsExecute s u → s.cpu.active = true → s.hookAnswers = some (answer :: answers) → Fetchable s 4 →
    hook s.cpu (bytesAtPc s 4) = answer →
    step s = executeWith (some hook) (u.setHookAnswers (some answers))

/-- One of the twelve bytes, fetched or first in a replacement, ends the step with IllegalOpcode at ipc (R381). -/
def Obligations.UndocumentedByteFaultsTheStep : Prop :=
  ∀ (s u : State) (op : Byte), op ∈ undocumentedOpcodes → NextIsExecute s u → s.cpu.active = true →
    (s.hookAnswers = none → s.byteAt s.cpu.pc = op → s.admits (.read s.cpu.pc) = true →
      step s = .fault (.illegalOpcode s.cpu.pc op)) ∧
    (∀ (more : List Byte) (answers : List (List Byte)), s.hookAnswers = some ((op :: more) :: answers) →
      more.length ≤ 3 → Fetchable s 4 → step s = .fault (.illegalOpcode s.cpu.pc op))

/-- The meaning of each of the twelve undocumented rows stops with IllegalOpcode and its own byte (R108). -/
def Obligations.UndocumentedRowsStop : Prop :=
  ∀ (i : Instr) (s : State), i.documented = false →
    ∃ op, op ∈ undocumentedOpcodes ∧ encode i = [op] ∧ exec i s = .fault (.illegalOpcode s.cpu.pc op)

/-- `execute` on a halted core returns 0 and changes nothing, makes no bus access and consumes no hook answer (R380). -/
def Obligations.HaltedExecuteOnlyReports : Prop :=
  ∀ s u : State, NextIsExecute s u → s.cpu.active = false → step s = .next (u.setResult .halted)

/-- A fetch byte that the board does not service ends the step with its bus fault; bytes go in address order (R111, R382). -/
def Obligations.UnservicedFetchFaults : Prop :=
  ∀ (s u : State) (n : Nat), NextIsExecute s u → s.cpu.active = true → s.hookAnswers = none →
    Fetchable s n → n < formatLength (s.byteAt s.cpu.pc) →
    s.admits (.read (s.cpu.pc + BitVec.ofNat 16 n)) = false →
    step s = .fault (.busFault (.read (s.cpu.pc + BitVec.ofNat 16 n)))

/-! ## Interrupts, reset and construction -/

/-- The host's calls are served one per step, in order (log 2): `interrupt` and `reset` by their definitions, and an
inspection returns the whole CPU state and changes nothing (R45); a call after the bus is destroyed, or concurrent with
another, is refused (R392). -/
def Obligations.HostCallsAreServedInOrder : Prop :=
  ∀ (s : State) (rest : List HostCall),
    (∀ code, s.calls = .interrupt code :: rest → step s = interrupt code (s.setCalls rest)) ∧
    (∀ vector, s.calls = .reset vector :: rest → step s = resetVector vector (s.setCalls rest)) ∧
    (s.calls = .inspect :: rest → step s = .next ((s.setCalls rest).setResult (.inspected s.cpu))) ∧
    (s.calls = .afterBusDestroyed :: rest → step s = .refused .busDestroyed) ∧
    (s.calls = .concurrent :: rest → step s = .refused .concurrentCall)

/-- An accepted interrupt clears IE, sets active, pushes pc and enters 8n (R386). -/
def Obligations.AcceptedInterruptEntersTheVector : Prop :=
  ∀ (s : State) (n : Nat), n < 8 → s.cpu.ie = true → WritableWord s (s.cpu.sp - 2) s.cpu.pc →
    ∃ t, interrupt (BitVec.ofNat 8 (0xC7 + 8 * n)) s = .next t ∧ t.result = .interruptAccepted ∧
      t.cpu.ie = false ∧ t.cpu.active = true ∧ t.cpu.pc.toNat = 8 * n ∧ t.cpu.sp = s.cpu.sp - 2 ∧
      StoresWord s t (s.cpu.sp - 2) s.cpu.pc.toNat ∧
      Frame.keeps { ie := true, active := true, pc := true, sp := true, mem := true } s t

/-- With IE = 0 `interrupt` returns false for every code and changes nothing (R385); with IE = 1 exactly the eight RST
opcodes are admitted and any other code is refused (R387). -/
def Obligations.InterruptsAreMaskedByIeThenByCode : Prop :=
  ∀ (s : State) (code : Byte),
    (s.cpu.ie = false → interrupt code s = .next (s.setResult .interruptMasked)) ∧
    (s.cpu.ie = true → (interrupt code s = .refused (.nonRestartCode code) ↔
      code ∉ ([0xC7, 0xCF, 0xD7, 0xDF, 0xE7, 0xEF, 0xF7, 0xFF] : List Byte)))

/-- `reset(vector)`: InvalidArgument for 8 and above, else exactly `interrupt(0xC7 | (vector << 3))` (R388). -/
def Obligations.ResetDelegatesToInterrupt : Prop :=
  ∀ (s : State) (vector : Nat),
    (8 ≤ vector → resetVector vector s = .next (s.setResult .invalidArgument)) ∧
    (vector < 8 → resetVector vector s =
      interrupt (([0xC7, 0xCF, 0xD7, 0xDF, 0xE7, 0xEF, 0xF7, 0xFF] : List Byte).getD vector 0) s)

/-- The handler's RET resumes the interrupted program: pc and SP are back, no register or flag was touched by the
entry and the return, and IE stays 0 (R386, R390). -/
def Obligations.InterruptThenReturnResumes : Prop :=
  ∀ (s t : State) (code : Byte), s.cpu.ie = true → interrupt code s = .next t → ReadableWord t t.cpu.sp →
    ∃ u, exec .ret t = .next u ∧ u.cpu.pc = s.cpu.pc ∧ u.cpu.sp = s.cpu.sp ∧ u.cpu.flags = s.cpu.flags ∧
      (∀ r, u.reg r = s.reg r) ∧ u.cpu.ie = false

/-- Construction: an image of at most 65536 bytes lies at 0x0000 with 0x00 after it and the core is in its reset state; a
larger one is rejected (R420, R421, R384). That the memory is canonical is the model's choice (log 7), no rule's. -/
def Obligations.ConstructionPlacesTheImage : Prop :=
  ∀ image : List Byte,
    (65536 < image.length → construct image = none) ∧
    (image.length ≤ 65536 → ∃ s, construct image = some s ∧ s.cpu = State.reset.cpu ∧ s.mem.wf = true ∧
      ∀ a : Word, s.byteAt a = image.getD a.toNat 0x00)

/-- The state after construction (R46): every register, flag, SP and pc 0, the flag byte 0x02, active = 1, IE = 0. -/
def Obligations.ResetStateIsTheConstructionState : Prop :=
  (∀ r, State.reset.reg r = 0x00) ∧ State.reset.cpu.sp = 0x0000 ∧ State.reset.cpu.pc = 0x0000 ∧
  State.reset.cpu.flags = { cy := false, ac := false, p := false, s := false, z := false } ∧
  flagByte State.reset.cpu.flags = 0x02 ∧ State.reset.cpu.active = true ∧ State.reset.cpu.ie = false

/-! ## Invariants and runs -/

/-- Every step keeps the invariant: memory stays canonical (log 7), and active = 0 implies IE = 0 (R44). -/
def Obligations.EveryStepKeepsTheInvariant : Prop :=
  ∀ s t : State, Inv s → step s = .next t → Inv t

/-- The reset state meets the invariant. -/
def Obligations.ResetMeetsTheInvariant : Prop := Inv State.reset

/-- A core halted with IE = 0 stays so for ever: whatever the host calls in orderly fashion, every step is safe and leaves
core, memory, ports and hook unchanged (R399, R400). -/
def Obligations.HaltIsPermanent : Prop :=
  ∀ (n : Nat) (s : State), HaltedForGood s → OnlyOrderlyCalls s →
    ∃ t : State, Host.Core.run core n s = .next t ∧ t.cpu = s.cpu ∧ t.mem = s.mem ∧ t.history = s.history ∧
      t.hookAnswers = s.hookAnswers

/-! ## State views, memory and the stack primitives -/

/-- BC, DE and HL are their halves, high byte first register, and writing a pair writes both halves (R33). -/
def Obligations.PairsAliasTheirHalves : Prop :=
  ∀ (s : State) (v : Word),
    (s.pair .bc).toNat = 256 * (s.reg .b).toNat + (s.reg .c).toNat ∧
    (s.pair .de).toNat = 256 * (s.reg .d).toNat + (s.reg .e).toNat ∧
    (s.pair .hl).toNat = 256 * (s.reg .h).toNat + (s.reg .l).toNat ∧
    ((s.setPair .bc v).reg .b).toNat = v.toNat / 256 ∧ ((s.setPair .bc v).reg .c).toNat = v.toNat % 256 ∧
    ((s.setPair .de v).reg .d).toNat = v.toNat / 256 ∧ ((s.setPair .de v).reg .e).toNat = v.toNat % 256 ∧
    ((s.setPair .hl v).reg .h).toNat = v.toNat / 256 ∧ ((s.setPair .hl v).reg .l).toNat = v.toNat % 256 ∧
    (∀ p, (s.setPair p v).pair p = v)

/-- A written byte is read back, no other byte changes and memory stays canonical (R74, log 7); words are little-endian
and wrap at 0xFFFF (R73). -/
def Obligations.MemoryAccesses : Prop :=
  ∀ (s : State) (a : Word),
    (∀ v : Byte, s.admits (.write a v) = true →
      ∃ t, memWrite1 a v s = .next t ∧ StoresByte s t a v ∧ (s.mem.wf = true → t.mem.wf = true) ∧
        (s.admits (.read a) = true → memRead1 a t = .next v)) ∧
    (∀ v : Word, WritableWord s a v → ∃ t, memWrite2 a v s = .next t ∧ StoresWord s t a v.toNat) ∧
    (ReadableWord s a → ∃ w : Word, memRead2 a s = .next w ∧ w.toNat = wordAt s a)

/-- Two canonical memories that read the same everywhere are the same data (log 7). -/
def Obligations.CanonicalMemoriesAreEqualWhenTheyReadEqual : Prop :=
  ∀ m n : Memory, m.wf = true → n.wf = true → (∀ a : Word, m.read a.toNat = n.read a.toNat) → m = n

/-- push16 stores at SP - 2 and moves SP there; pop16 of it gives the word back and restores SP (R270, R271, R272). -/
def Obligations.PopInvertsPush : Prop :=
  ∀ (s : State) (v : Word), WritableWord s (s.cpu.sp - 2) v → ReadableWord s (s.cpu.sp - 2) →
    ∃ t, push16 v s = .next t ∧ t.cpu.sp = s.cpu.sp - 2 ∧ StoresWord s t (s.cpu.sp - 2) v.toNat ∧
      ∃ u, pop16 t = .next (v, u) ∧ u.cpu.sp = s.cpu.sp ∧ u.mem = t.mem

/-! ## Data transfer (40_data_transfer.md) -/

/-- MOV d,s (R140). -/
def Obligations.MoveRegisterToRegister : Prop :=
  ∀ (dst src : Reg) (s : State),
    encode (.movRegReg dst src) = [0x40 ||| (regCode dst <<< 3) ||| regCode src] ∧
    Completes (.movRegReg dst src) s 5 { regs := [dst] } fun t => t.reg dst = s.reg src

/-- MOV d,M and MOV M,s; the address is the HL held before the write (R141, R142). -/
def Obligations.MoveBetweenRegisterAndMemory : Prop :=
  ∀ (r : Reg) (s : State),
    encode (.movRegMem r) = [0x46 ||| (regCode r <<< 3)] ∧ encode (.movMemReg r) = [0x70 ||| regCode r] ∧
    (s.admits (.read s.hl) = true →
      Completes (.movRegMem r) s 7 { regs := [r] } fun t => t.reg r = s.byteAt s.hl) ∧
    (s.admits (.read s.hl) = false → BusFaults (.movRegMem r) s (.read s.hl)) ∧
    (s.admits (.write s.hl (s.reg r)) = true →
      Completes (.movMemReg r) s 7 { mem := true } fun t => StoresByte s t s.hl (s.reg r)) ∧
    (s.admits (.write s.hl (s.reg r)) = false → BusFaults (.movMemReg r) s (.write s.hl (s.reg r)))

/-- MVI d,data; MVI M,data; LXI p,data16 (R143, R144, R145). -/
def Obligations.ImmediateLoads : Prop :=
  ∀ (dst : Reg) (v : Byte) (p : Pair) (w : Word) (s : State),
    encode (.mviReg dst v) = [0x06 ||| (regCode dst <<< 3), v] ∧ encode (.mviM v) = [0x36, v] ∧
    encode (.lxi p w) = (0x01 ||| (pairCode p <<< 4)) :: operandBytes w ∧
    (Completes (.mviReg dst v) s 7 { regs := [dst] } fun t => t.reg dst = v) ∧
    (s.admits (.write s.hl v) = true → Completes (.mviM v) s 10 { mem := true } fun t => StoresByte s t s.hl v) ∧
    (s.admits (.write s.hl v) = false → BusFaults (.mviM v) s (.write s.hl v)) ∧
    (Completes (.lxi .bc w) s 10 { regs := [.b, .c] } fun t => t.pair .bc = w) ∧
    (Completes (.lxi .de w) s 10 { regs := [.d, .e] } fun t => t.pair .de = w) ∧
    (Completes (.lxi .hl w) s 10 { regs := [.h, .l] } fun t => t.pair .hl = w) ∧
    (Completes (.lxi .sp w) s 10 { sp := true } fun t => t.cpu.sp = w)

/-- LDA and LDAX (R146, R150). -/
def Obligations.AccumulatorLoads : Prop :=
  ∀ (w : Word) (p : IndexPair) (s : State),
    encode (.lda w) = 0x3A :: operandBytes w ∧ encode (.ldax p) = [0x0A ||| (pairCode p.pair <<< 4)] ∧
    (s.admits (.read w) = true → Completes (.lda w) s 13 { regs := [.a] } fun t => t.reg .a = s.byteAt w) ∧
    (s.admits (.read w) = false → BusFaults (.lda w) s (.read w)) ∧
    (s.admits (.read (s.pair p.pair)) = true →
      Completes (.ldax p) s 7 { regs := [.a] } fun t => t.reg .a = s.byteAt (s.pair p.pair)) ∧
    (s.admits (.read (s.pair p.pair)) = false → BusFaults (.ldax p) s (.read (s.pair p.pair)))

/-- STA and STAX (R147, R151). -/
def Obligations.AccumulatorStores : Prop :=
  ∀ (w : Word) (p : IndexPair) (s : State),
    encode (.sta w) = 0x32 :: operandBytes w ∧ encode (.stax p) = [0x02 ||| (pairCode p.pair <<< 4)] ∧
    (s.admits (.write w (s.reg .a)) = true →
      Completes (.sta w) s 13 { mem := true } fun t => StoresByte s t w (s.reg .a)) ∧
    (s.admits (.write w (s.reg .a)) = false → BusFaults (.sta w) s (.write w (s.reg .a))) ∧
    (s.admits (.write (s.pair p.pair) (s.reg .a)) = true →
      Completes (.stax p) s 7 { mem := true } fun t => StoresByte s t (s.pair p.pair) (s.reg .a)) ∧
    (s.admits (.write (s.pair p.pair) (s.reg .a)) = false →
      BusFaults (.stax p) s (.write (s.pair p.pair) (s.reg .a)))

/-- LHLD and SHLD (R148, R149). -/
def Obligations.HlDirectLoadAndStore : Prop :=
  ∀ (w : Word) (s : State),
    encode (.lhld w) = 0x2A :: operandBytes w ∧ encode (.shld w) = 0x22 :: operandBytes w ∧
    (ReadableWord s w → Completes (.lhld w) s 16 { regs := [.h, .l] } fun t =>
      t.reg .l = s.byteAt w ∧ t.reg .h = s.byteAt (w + 1)) ∧
    WordReadFaults (.lhld w) s w ∧
    (WritableWord s w s.hl → Completes (.shld w) s 16 { mem := true } fun t => StoresWord s t w s.hl.toNat) ∧
    WordWriteFaults (.shld w) s w s.hl

/-- XCHG, SPHL and PCHL (R152, R278, R321). -/
def Obligations.HlExchangeAndMoves : Prop :=
  ∀ s : State,
    encode .xchg = [0xEB] ∧ encode .sphl = [0xF9] ∧ encode .pchl = [0xE9] ∧
    (Completes .xchg s 4 { regs := [.d, .e, .h, .l] } fun t =>
      t.reg .h = s.reg .d ∧ t.reg .l = s.reg .e ∧ t.reg .d = s.reg .h ∧ t.reg .e = s.reg .l) ∧
    (Completes .sphl s 5 { sp := true } fun t => t.cpu.sp = s.hl) ∧
    (Completes .pchl s 5 { pc := true } fun t => t.cpu.pc = s.hl)

/-! ## Arithmetic (41_arithmetic.md) -/

/-- The accumulator group writes A and the flags and nothing else; `post x t` relates operand and result. -/
def Statements.AccumulatorForms (op : AluOp) (imm : Byte) (regs : List Reg) (post : State → Byte → State → Prop) : Prop :=
  ∀ (r : Reg) (v : Byte) (s : State),
    encode (.aluReg op r) = [0x80 ||| (aluCode op <<< 3) ||| regCode r] ∧
    encode (.aluMem op) = [0x86 ||| (aluCode op <<< 3)] ∧ encode (.aluImm op v) = [imm, v] ∧
    (Completes (.aluReg op r) s 4 { regs := regs, flags := true } (post s (s.reg r))) ∧
    (s.admits (.read s.hl) = true →
      Completes (.aluMem op) s 7 { regs := regs, flags := true } (post s (s.byteAt s.hl))) ∧
    (s.admits (.read s.hl) = false → BusFaults (.aluMem op) s (.read s.hl)) ∧
    (Completes (.aluImm op v) s 7 { regs := regs, flags := true } (post s v))

/-- ADD, ADI, ADC, ACI in every form: the sum, its carries and its flags (R185-R190, R181). -/
def Obligations.AdditionForms : Prop :=
  Statements.AccumulatorForms .add 0xC6 [.a] (fun s x t => IsSum (s.reg .a).toNat x.toNat 0 (t.reg .a) t.cpu.flags) ∧
  Statements.AccumulatorForms .adc 0xCE [.a]
    (fun s x t => IsSum (s.reg .a).toNat x.toNat s.cpu.flags.cy.toNat (t.reg .a) t.cpu.flags)

/-- SUB, SUI, SBB, SBI in every form: the difference, its borrow and its flags (R191-R196, R182). -/
def Obligations.SubtractionForms : Prop :=
  Statements.AccumulatorForms .sub 0xD6 [.a]
    (fun s x t => IsDifference (s.reg .a).toNat x.toNat 0 (t.reg .a) t.cpu.flags) ∧
  Statements.AccumulatorForms .sbb 0xDE [.a]
    (fun s x t => IsDifference (s.reg .a).toNat x.toNat s.cpu.flags.cy.toNat (t.reg .a) t.cpu.flags)

/-- CMP and CPI: the flags of the subtraction, A unchanged (R240-R242). -/
def Obligations.CompareForms : Prop :=
  Statements.AccumulatorForms .cmp 0xFE []
    (fun s x t => ∃ r, IsDifference (s.reg .a).toNat x.toNat 0 r t.cpu.flags)

/-- INR and DCR of a register (R197, R199, R183). -/
def Obligations.RegisterCounts : Prop :=
  ∀ (r : Reg) (s : State),
    encode (.inrReg r) = [0x04 ||| (regCode r <<< 3)] ∧ encode (.dcrReg r) = [0x05 ||| (regCode r <<< 3)] ∧
    (Completes (.inrReg r) s 5 { regs := [r], flags := true } fun t =>
      (t.reg r).toNat = ((s.reg r).toNat + 1) % 256 ∧ ResultFlags (t.reg r) t.cpu.flags ∧
      (t.cpu.flags.ac = true ↔ (s.reg r).toNat % 16 = 15) ∧ t.cpu.flags.cy = s.cpu.flags.cy) ∧
    (Completes (.dcrReg r) s 5 { regs := [r], flags := true } fun t =>
      (t.reg r).toNat = ((s.reg r).toNat + 255) % 256 ∧ ResultFlags (t.reg r) t.cpu.flags ∧
      (t.cpu.flags.ac = true ↔ (s.reg r).toNat % 16 ≠ 0) ∧ t.cpu.flags.cy = s.cpu.flags.cy)

/-- INR M and DCR M: one read, then one write of the same byte (R198, R200, R183). -/
def Obligations.MemoryCounts : Prop :=
  ∀ s : State,
    encode .inrM = [0x34] ∧ encode .dcrM = [0x35] ∧
    (s.admits (.read s.hl) = false → BusFaults .inrM s (.read s.hl) ∧ BusFaults .dcrM s (.read s.hl)) ∧
    (∀ v : Byte, s.admits (.read s.hl) = true → v.toNat = ((s.byteAt s.hl).toNat + 1) % 256 →
      (s.admits (.write s.hl v) = true → Completes .inrM s 10 { mem := true, flags := true } fun t =>
        StoresByte s t s.hl v ∧ ResultFlags v t.cpu.flags ∧
        (t.cpu.flags.ac = true ↔ (s.byteAt s.hl).toNat % 16 = 15) ∧ t.cpu.flags.cy = s.cpu.flags.cy) ∧
      (s.admits (.write s.hl v) = false → BusFaults .inrM s (.write s.hl v))) ∧
    (∀ v : Byte, s.admits (.read s.hl) = true → v.toNat = ((s.byteAt s.hl).toNat + 255) % 256 →
      (s.admits (.write s.hl v) = true → Completes .dcrM s 10 { mem := true, flags := true } fun t =>
        StoresByte s t s.hl v ∧ ResultFlags v t.cpu.flags ∧
        (t.cpu.flags.ac = true ↔ (s.byteAt s.hl).toNat % 16 ≠ 0) ∧ t.cpu.flags.cy = s.cpu.flags.cy) ∧
      (s.admits (.write s.hl v) = false → BusFaults .dcrM s (.write s.hl v)))

/-- The registers a pair is made of, and whether it is SP. -/
def Statements.pairFrame : Pair → Frame
  | .bc => { regs := [.b, .c] }
  | .de => { regs := [.d, .e] }
  | .hl => { regs := [.h, .l] }
  | .sp => { sp := true }

/-- INX and DCX: modulo 2^16, no flag (R201, R202). -/
def Obligations.PairCounts : Prop :=
  ∀ (p : Pair) (s : State),
    encode (.inx p) = [0x03 ||| (pairCode p <<< 4)] ∧ encode (.dcx p) = [0x0B ||| (pairCode p <<< 4)] ∧
    (Completes (.inx p) s 5 (Statements.pairFrame p) fun t => (t.pair p).toNat = ((s.pair p).toNat + 1) % 65536) ∧
    (Completes (.dcx p) s 5 (Statements.pairFrame p) fun t => (t.pair p).toNat = ((s.pair p).toNat + 65535) % 65536)

/-- DAD: HL + rp in 17 bits, CY alone (R203). -/
def Obligations.DoubleAdd : Prop :=
  ∀ (p : Pair) (s : State),
    encode (.dad p) = [0x09 ||| (pairCode p <<< 4)] ∧
    Completes (.dad p) s 10 { regs := [.h, .l], flags := true } fun t =>
      t.hl.toNat = (s.hl.toNat + (s.pair p).toNat) % 65536 ∧
      (t.cpu.flags.cy = true ↔ 65536 ≤ s.hl.toNat + (s.pair p).toNat) ∧
      t.cpu.flags = { s.cpu.flags with cy := t.cpu.flags.cy }

/-- DAA as R204 computes it, for every A and every flags. -/
def Obligations.DecimalAdjust : Prop :=
  ∀ s : State,
    encode .daa = [0x27] ∧
    Completes .daa s 4 { regs := [.a], flags := true } fun t =>
      ∃ low high : Nat,
        low = (if s.cpu.flags.ac = true ∨ 9 < (s.reg .a).toNat % 16 then 6 else 0) ∧
        high = (if s.cpu.flags.cy = true ∨ 9 < (s.reg .a).toNat / 16 ∨
            (9 ≤ (s.reg .a).toNat / 16 ∧ 9 < (s.reg .a).toNat % 16) then 96 else 0) ∧
        (t.reg .a).toNat = ((s.reg .a).toNat + low + high) % 256 ∧
        (t.cpu.flags.cy = true ↔ high = 96) ∧
        (t.cpu.flags.ac = true ↔ 16 ≤ (s.reg .a).toNat % 16 + low) ∧ ResultFlags (t.reg .a) t.cpu.flags

/-- ADI or ACI of two BCD bytes and then DAA gives their decimal sum, CY its hundreds digit (R204, corner cases). -/
def Obligations.DecimalAdditionIsExact : Prop :=
  ∀ (s t u : State) (x : Byte), IsBcd (s.reg .a) → IsBcd x →
    ((exec (.adi x) s = .next t ∧ exec .daa t = .next u →
      IsBcd (u.reg .a) ∧ bcdValue (u.reg .a) = (bcdValue (s.reg .a) + bcdValue x) % 100 ∧
      (u.cpu.flags.cy = true ↔ 100 ≤ bcdValue (s.reg .a) + bcdValue x)) ∧
    (exec (.aci x) s = .next t ∧ exec .daa t = .next u →
      IsBcd (u.reg .a) ∧ bcdValue (u.reg .a) = (bcdValue (s.reg .a) + bcdValue x + s.cpu.flags.cy.toNat) % 100 ∧
      (u.cpu.flags.cy = true ↔ 100 ≤ bcdValue (s.reg .a) + bcdValue x + s.cpu.flags.cy.toNat)))

/-! ## Logic (42_logical.md) -/

/-- A logical result: bit by bit, with CY and AC cleared (R230). -/
def Statements.IsLogic (f : Bool → Bool → Bool) (s : State) (x : Byte) (t : State) : Prop :=
  (∀ k, k < 8 → (t.reg .a).getLsbD k = f ((s.reg .a).getLsbD k) (x.getLsbD k)) ∧
  t.cpu.flags.cy = false ∧ t.cpu.flags.ac = false ∧ ResultFlags (t.reg .a) t.cpu.flags

/-- ANA, ANI, XRA, XRI, ORA, ORI in every form (R230-R239). -/
def Obligations.LogicalForms : Prop :=
  Statements.AccumulatorForms .ana 0xE6 [.a] (Statements.IsLogic and) ∧
  Statements.AccumulatorForms .xra 0xEE [.a] (Statements.IsLogic xor) ∧
  Statements.AccumulatorForms .ora 0xF6 [.a] (Statements.IsLogic or)

/-- RLC, RRC, RAL, RAR: A rotated, CY the bit rotated out, no other flag (R243-R246). -/
def Obligations.Rotates : Prop :=
  ∀ s : State,
    let a := (s.reg .a).toNat
    let carryOnly := fun t : State => t.cpu.flags = { s.cpu.flags with cy := t.cpu.flags.cy }
    encode .rlc = [0x07] ∧ encode .rrc = [0x0F] ∧ encode .ral = [0x17] ∧ encode .rar = [0x1F] ∧
    (Completes .rlc s 4 { regs := [.a], flags := true } fun t =>
      (t.reg .a).toNat = 2 * a % 256 + a / 128 ∧ (t.cpu.flags.cy = true ↔ 128 ≤ a) ∧ carryOnly t) ∧
    (Completes .rrc s 4 { regs := [.a], flags := true } fun t =>
      (t.reg .a).toNat = a / 2 + 128 * (a % 2) ∧ (t.cpu.flags.cy = true ↔ a % 2 = 1) ∧ carryOnly t) ∧
    (Completes .ral s 4 { regs := [.a], flags := true } fun t =>
      (t.reg .a).toNat = 2 * a % 256 + s.cpu.flags.cy.toNat ∧ (t.cpu.flags.cy = true ↔ 128 ≤ a) ∧ carryOnly t) ∧
    (Completes .rar s 4 { regs := [.a], flags := true } fun t =>
      (t.reg .a).toNat = a / 2 + 128 * s.cpu.flags.cy.toNat ∧ (t.cpu.flags.cy = true ↔ a % 2 = 1) ∧ carryOnly t)

/-- CMA, CMC, STC (R247-R249). -/
def Obligations.ComplementAndCarry : Prop :=
  ∀ s : State,
    encode .cma = [0x2F] ∧ encode .cmc = [0x3F] ∧ encode .stc = [0x37] ∧
    (Completes .cma s 4 { regs := [.a] } fun t => (t.reg .a).toNat = 255 - (s.reg .a).toNat) ∧
    (Completes .cmc s 4 { flags := true } fun t =>
      t.cpu.flags = { s.cpu.flags with cy := !s.cpu.flags.cy }) ∧
    (Completes .stc s 4 { flags := true } fun t => t.cpu.flags = { s.cpu.flags with cy := true })

/-! ## Stack (43_stack.md) -/

/-- PUSH rp and PUSH PSW (R273, R274, R41). -/
def Obligations.Pushes : Prop :=
  ∀ (p : StackPair) (s : State),
    encode (.push p) = [0xC5 ||| (pairCode p.pair <<< 4)] ∧ encode .pushPsw = [0xF5] ∧
    (WritableWord s (s.cpu.sp - 2) (s.pair p.pair) →
      Completes (.push p) s 11 { sp := true, mem := true } fun t =>
        t.cpu.sp = s.cpu.sp - 2 ∧ StoresWord s t (s.cpu.sp - 2) (s.pair p.pair).toNat) ∧
    WordWriteFaults (.push p) s (s.cpu.sp - 2) (s.pair p.pair) ∧
    (WritableWord s (s.cpu.sp - 2) (BitVec.ofNat 16 (pswValue s)) →
      Completes .pushPsw s 11 { sp := true, mem := true } fun t =>
        t.cpu.sp = s.cpu.sp - 2 ∧ StoresWord s t (s.cpu.sp - 2) (pswValue s)) ∧
    WordWriteFaults .pushPsw s (s.cpu.sp - 2) (BitVec.ofNat 16 (pswValue s))

/-- POP rp and POP PSW; bits 5, 3 and 1 of the flag byte are discarded (R275, R276). -/
def Obligations.Pops : Prop :=
  ∀ (p : StackPair) (s : State),
    let f := (s.byteAt s.cpu.sp).toNat
    encode (.pop p) = [0xC1 ||| (pairCode p.pair <<< 4)] ∧ encode .popPsw = [0xF1] ∧
    (ReadableWord s s.cpu.sp →
      (Completes (.pop p) s 10 { Statements.pairFrame p.pair with sp := true } fun t =>
        (t.pair p.pair).toNat = wordAt s s.cpu.sp ∧ t.cpu.sp = s.cpu.sp + 2) ∧
      (Completes .popPsw s 10 { regs := [.a], flags := true, sp := true } fun t =>
        t.reg .a = s.byteAt (s.cpu.sp + 1) ∧ t.cpu.sp = s.cpu.sp + 2 ∧
        t.cpu.flags = { s := f.testBit 7, z := f.testBit 6, ac := f.testBit 4, p := f.testBit 2, cy := f.testBit 0 })) ∧
    WordReadFaults (.pop p) s s.cpu.sp ∧ WordReadFaults .popPsw s s.cpu.sp

/-- XTHL: the word at SP and HL change places, SP stays (R277). -/
def Obligations.ExchangeStackTop : Prop :=
  ∀ s : State,
    encode .xthl = [0xE3] ∧ WordReadFaults .xthl s s.cpu.sp ∧
    (ReadableWord s s.cpu.sp →
      (WritableWord s s.cpu.sp s.hl → Completes .xthl s 18 { regs := [.h, .l], mem := true } fun t =>
        t.hl.toNat = wordAt s s.cpu.sp ∧ StoresWord s t s.cpu.sp s.hl.toNat) ∧
      WordWriteFaults .xthl s s.cpu.sp s.hl)

/-- PUSH then POP of the same pair, or of PSW, restores the pair, A, the flags and SP (R271, W2). -/
def Obligations.PushThenPopRestores : Prop :=
  ∀ (p : StackPair) (s t u : State),
    (exec (.push p) s = .next t → exec (.pop p) t = .next u →
      u.cpu = s.cpu ∧ u.mem = t.mem) ∧
    (exec .pushPsw s = .next t → exec .popPsw t = .next u → u.cpu = s.cpu ∧ u.mem = t.mem)

/-! ## Branches (44_branch.md) -/

/-- JMP and the eight conditional jumps (R290, R293-R301). -/
def Obligations.Jumps : Prop :=
  ∀ (code : Cond) (w : Word) (s : State),
    encode (.jmp w) = 0xC3 :: operandBytes w ∧
    encode (.jumpIf code w) = (0xC2 ||| (condCode code <<< 3)) :: operandBytes w ∧
    (Completes (.jmp w) s 10 { pc := true } fun t => t.cpu.pc = w) ∧
    (CondHolds code s.cpu.flags → Completes (.jumpIf code w) s 10 { pc := true } fun t => t.cpu.pc = w) ∧
    (¬ CondHolds code s.cpu.flags → Completes (.jumpIf code w) s 10 {} fun _ => True)

/-- CALL and the eight conditional calls; an untaken one makes no access (R302-R310). -/
def Obligations.Calls : Prop :=
  ∀ (code : Cond) (w : Word) (s : State),
    let called := fun t : State =>
      t.cpu.pc = w ∧ t.cpu.sp = s.cpu.sp - 2 ∧ StoresWord s t (s.cpu.sp - 2) s.cpu.pc.toNat
    encode (.call w) = 0xCD :: operandBytes w ∧
    encode (.callIf code w) = (0xC4 ||| (condCode code <<< 3)) :: operandBytes w ∧
    (WritableWord s (s.cpu.sp - 2) s.cpu.pc →
      Completes (.call w) s 17 { pc := true, sp := true, mem := true } called ∧
      (CondHolds code s.cpu.flags → Completes (.callIf code w) s 17 { pc := true, sp := true, mem := true } called)) ∧
    WordWriteFaults (.call w) s (s.cpu.sp - 2) s.cpu.pc ∧
    (CondHolds code s.cpu.flags → WordWriteFaults (.callIf code w) s (s.cpu.sp - 2) s.cpu.pc) ∧
    (¬ CondHolds code s.cpu.flags → Completes (.callIf code w) s 11 {} fun _ => True)

/-- RET and the eight conditional returns; an untaken one makes no access (R311-R319). -/
def Obligations.Returns : Prop :=
  ∀ (code : Cond) (s : State),
    let returned := fun t : State => t.cpu.pc.toNat = wordAt s s.cpu.sp ∧ t.cpu.sp = s.cpu.sp + 2
    encode .ret = [0xC9] ∧ encode (.retIf code) = [0xC0 ||| (condCode code <<< 3)] ∧
    (ReadableWord s s.cpu.sp →
      Completes .ret s 10 { pc := true, sp := true } returned ∧
      (CondHolds code s.cpu.flags → Completes (.retIf code) s 11 { pc := true, sp := true } returned)) ∧
    WordReadFaults .ret s s.cpu.sp ∧
    (CondHolds code s.cpu.flags → WordReadFaults (.retIf code) s s.cpu.sp) ∧
    (¬ CondHolds code s.cpu.flags → Completes (.retIf code) s 5 {} fun _ => True)

/-- RST n: push pc, go to 8n, IE and active untouched (R320, R105). -/
def Obligations.Restarts : Prop :=
  ∀ (n : BitVec 3) (s : State),
    encode (.rst n) = [0xC7 ||| (n.setWidth 8 <<< 3)] ∧
    (WritableWord s (s.cpu.sp - 2) s.cpu.pc →
      Completes (.rst n) s 11 { pc := true, sp := true, mem := true } fun t =>
        t.cpu.pc.toNat = 8 * n.toNat ∧ t.cpu.sp = s.cpu.sp - 2 ∧ StoresWord s t (s.cpu.sp - 2) s.cpu.pc.toNat) ∧
    WordWriteFaults (.rst n) s (s.cpu.sp - 2) s.cpu.pc

/-! ## Ports and control (45_io.md, 46_control.md) -/

/-- IN loads the board's answer, whatever it is, and OUT emits A; each makes exactly one port transaction, recorded in
program order (R350, R351, R75). The answer is the free value of log 6. -/
def Obligations.PortTransactions : Prop :=
  ∀ (port : Byte) (s : State),
    encode (.inPort port) = [0xDB, port] ∧ encode (.outPort port) = [0xD3, port] ∧
    (s.admits (.input port) = true → Completes (.inPort port) s 10 { regs := [.a], history := true } fun t =>
      t.reg .a = Config.input port s.history ∧ t.history = s.history ++ [.input port (t.reg .a)]) ∧
    (s.admits (.input port) = false → BusFaults (.inPort port) s (.input port)) ∧
    (s.admits (.output port (s.reg .a)) = true → Completes (.outPort port) s 10 { history := true } fun t =>
      t.history = s.history ++ [.output port (s.reg .a)]) ∧
    (s.admits (.output port (s.reg .a)) = false → BusFaults (.outPort port) s (.output port (s.reg .a)))

/-- EI, DI, HLT, NOP: HLT halts exactly when IE = 0 (R360-R363). -/
def Obligations.ControlInstructions : Prop :=
  ∀ s : State,
    encode .ei = [0xFB] ∧ encode .di = [0xF3] ∧ encode .hlt = [0x76] ∧ encode .nop = [0x00] ∧
    (Completes .ei s 4 { ie := true } fun t => t.cpu.ie = true) ∧
    (Completes .di s 4 { ie := true } fun t => t.cpu.ie = false) ∧
    (s.cpu.ie = false → Completes .hlt s 7 { active := true } fun t => t.cpu.active = false) ∧
    (s.cpu.ie = true → Completes .hlt s 7 {} fun _ => True) ∧
    (Completes .nop s 4 {} fun _ => True)

/-! ## Rules over all instructions -/

/-- Every executed instruction returns the count R440 gives its opcode on the flags before it. -/
def Obligations.CycleCountsFollowTheTable : Prop :=
  ∀ (i : Instr) (s t : State), exec i s = .next t →
    t.result = .cycles (tableCycles (opcodeOf i) s.cpu.flags) ∧
    4 ≤ tableCycles (opcodeOf i) s.cpu.flags ∧ tableCycles (opcodeOf i) s.cpu.flags ≤ 18

/-- No documented instruction stops but by an access the board does not service, so with a board that services all of
them every documented instruction completes (R383). -/
def Obligations.OnlyUnservicedAccessesStop : Prop :=
  ∀ (i : Instr) (s : State), i.documented = true →
    ((∃ t, exec i s = .next t) ∨ ∃ x, s.admits x = false ∧ exec i s = .fault (.busFault x)) ∧
    (AllServiced s → ∃ t, exec i s = .next t)

/-- Flags are written by the instructions of R39 and by no other, row by row. -/
def Obligations.FlagWritesFollowTheTable : Prop :=
  ∀ (i : Instr) (s t : State), exec i s = .next t →
    (writesAllButCarry (opcodeOf i) = true → t.cpu.flags.cy = s.cpu.flags.cy) ∧
    (writesOnlyCarry (opcodeOf i) = true → t.cpu.flags = { s.cpu.flags with cy := t.cpu.flags.cy }) ∧
    (writesAllFlags (opcodeOf i) = false → writesAllButCarry (opcodeOf i) = false →
      writesOnlyCarry (opcodeOf i) = false → t.cpu.flags = s.cpu.flags)

/-- Instructions outside the lists of R79 make no access at all: they complete on a board that services nothing, and
change neither memory nor the port history; those that only read leave memory unchanged. -/
def Obligations.OnlyListedInstructionsUseTheBus : Prop :=
  ∀ (i : Instr) (s : State), i.documented = true →
    (accessesMemory (opcodeOf i) = false → accessesPort (opcodeOf i) = false →
      ∃ t, exec i s = .next t ∧ t.mem = s.mem ∧ t.history = s.history) ∧
    (∀ t, exec i s = .next t → writesMemory (opcodeOf i) = false → t.mem = s.mem) ∧
    (∀ t, exec i s = .next t → accessesPort (opcodeOf i) = false → t.history = s.history)

/-- Only EI and DI write IE, only HLT with IE = 0 clears active and none sets it, and SP is written only by the
instructions R36 lists (R36, R42, R43). -/
def Obligations.ControlStateIsWrittenOnlyByItsInstructions : Prop :=
  ∀ (i : Instr) (s t : State), exec i s = .next t →
    (t.cpu.ie ≠ s.cpu.ie → (i = .ei ∧ t.cpu.ie = true) ∨ (i = .di ∧ t.cpu.ie = false)) ∧
    (t.cpu.active ≠ s.cpu.active → i = .hlt ∧ s.cpu.ie = false ∧ t.cpu.active = false) ∧
    (writesSp (opcodeOf i) = false → t.cpu.sp = s.cpu.sp)
end

