-- ==== Sys2Proof/Laws/Memory.lean ====
section
/-! SUPPORT. The laws of memory as data: read after write, and every operation keeps the canonical form (log 7). -/

namespace Sys2Proof.Machine

@[simp] theorem read_nil (a : Nat) : Memory.read [] a = Config.unlistedByte := rfl

@[simp] theorem read_cons (cell : Host.Cell) (m : Memory) (a : Nat) :
    Memory.read (cell :: m) a = if cell.1 = a then cell.2 else Memory.read m a := rfl

theorem read_erase (m : Memory) (a b : Nat) :
    (m.erase a).read b = if b = a then Config.unlistedByte else m.read b := by
  induction m with
  | nil => simp [Memory.erase]
  | cons cell rest ih =>
    simp only [Memory.erase, List.filter_cons] at ih ⊢
    by_cases h : cell.1 = a
    · simp only [h, ne_eq, not_true_eq_false, decide_false, Bool.false_eq_true, if_false, ih, read_cons]
      by_cases hb : b = a
      · simp [hb]
      · simp [hb, Ne.symm hb]
    · simp only [ne_eq, h, not_false_eq_true, decide_true, if_true, read_cons, ih]
      by_cases hb : b = a
      · subst hb; simp [h]
      · simp [hb]

theorem read_insert (m : Memory) (a b : Nat) (v : Byte) (h : ∀ cell ∈ m, cell.1 ≠ a) :
    (m.insert a v).read b = if b = a then v else m.read b := by
  induction m with
  | nil => simp [Memory.insert, eq_comm]
  | cons cell rest ih =>
    have hc : cell.1 ≠ a := h cell (by simp)
    have hr := ih fun x hx => h x (by simp [hx])
    simp only [Memory.insert]
    by_cases hlt : a < cell.1
    · simp only [hlt, if_true, read_cons]
      by_cases hb : b = a
      · simp [hb]
      · simp [hb, Ne.symm hb]
    · simp only [hlt, if_false, read_cons, hr]
      by_cases hb : b = a
      · subst hb; simp [hc]
      · simp [hb]

/-- Read after write: the byte written, and every other byte as before. -/
@[simp] theorem read_write (m : Memory) (a b : Nat) (v : Byte) :
    (m.write a v).read b = if b = a then v else m.read b := by
  unfold Memory.write
  by_cases hv : v = Config.unlistedByte
  · simp only [hv, if_true, read_erase]
  · simp only [hv, if_false]
    rw [read_insert, read_erase]
    · by_cases hb : b = a <;> simp [hb]
    · intro cell hcell
      simpa [Memory.erase] using (List.mem_filter.mp hcell).2

theorem wfFrom_mono (m : Memory) {low low' : Nat} (h : low' ≤ low) (hm : Memory.wfFrom low m = true) :
    Memory.wfFrom low' m = true := by
  cases m with
  | nil => rfl
  | cons cell rest =>
    simp only [Memory.wfFrom, Bool.and_eq_true, decide_eq_true_eq] at hm ⊢
    exact ⟨⟨⟨by omega, hm.1.1.2⟩, hm.1.2⟩, hm.2⟩

theorem wfFrom_erase (m : Memory) (a : Nat) (low : Nat) (hm : Memory.wfFrom low m = true) :
    Memory.wfFrom low (m.erase a) = true := by
  induction m generalizing low with
  | nil => rfl
  | cons cell rest ih =>
    simp only [Memory.wfFrom, Bool.and_eq_true, decide_eq_true_eq] at hm
    have hr := ih _ hm.2
    simp only [Memory.erase, List.filter_cons] at hr ⊢
    by_cases h : cell.1 = a
    · simp only [h, ne_eq, not_true_eq_false, decide_false, Bool.false_eq_true, if_false]
      exact wfFrom_mono _ (by omega) hr
    · simp only [ne_eq, h, not_false_eq_true, decide_true, if_true, Memory.wfFrom, Bool.and_eq_true,
        decide_eq_true_eq]
      exact ⟨⟨⟨hm.1.1.1, hm.1.1.2⟩, hm.1.2⟩, hr⟩

theorem wfFrom_insert (m : Memory) (a : Nat) (v : Byte) (low : Nat) (hm : Memory.wfFrom low m = true)
    (hlow : low ≤ a) (ha : a < Config.memorySize) (hv : v ≠ Config.unlistedByte) (h : ∀ cell ∈ m, cell.1 ≠ a) :
    Memory.wfFrom low (m.insert a v) = true := by
  induction m generalizing low with
  | nil => simp [Memory.insert, Memory.wfFrom, hlow, ha, hv]
  | cons cell rest ih =>
    have hc : cell.1 ≠ a := h cell (by simp)
    simp only [Memory.wfFrom, Bool.and_eq_true, decide_eq_true_eq] at hm
    simp only [Memory.insert]
    by_cases hlt : a < cell.1
    · simp only [hlt, if_true, Memory.wfFrom, Bool.and_eq_true, decide_eq_true_eq]
      exact ⟨⟨⟨hlow, ha⟩, hv⟩, ⟨⟨by omega, hm.1.1.2⟩, hm.1.2⟩, hm.2⟩
    · simp only [hlt, if_false, Memory.wfFrom, Bool.and_eq_true, decide_eq_true_eq]
      exact ⟨⟨⟨hm.1.1.1, hm.1.1.2⟩, hm.1.2⟩, ih _ hm.2 (by omega) fun x hx => h x (by simp [hx])⟩

/-- A write keeps the canonical form. -/
theorem wf_write (m : Memory) (a : Word) (v : Byte) (hm : m.wf = true) : (m.write a.toNat v).wf = true := by
  unfold Memory.write
  by_cases hv : v = Config.unlistedByte
  · rw [if_pos hv]
    exact wfFrom_erase m _ _ hm
  · rw [if_neg hv]
    refine wfFrom_insert _ _ _ _ (wfFrom_erase m _ _ hm) (by omega) a.isLt hv ?_
    intro cell hcell
    simpa [Memory.erase] using (List.mem_filter.mp hcell).2

/-- Writing a list of bytes keeps the canonical form. -/
theorem wf_writeBytes (m : Memory) (a : Word) (bytes : List Byte) (hm : m.wf = true) :
    (m.writeBytes a bytes).wf = true := by
  induction bytes generalizing m a with
  | nil => exact hm
  | cons v rest ih => exact ih _ _ (wf_write m a v hm)

end Sys2Proof.Machine
end

