-- ==== Sys2Proof/Laws/State.lean ====
section
/-! SUPPORT. What each update of State leaves in each field: one lemma per field per update, so that no later proof
unfolds a record update. -/

namespace Sys2Proof.Machine

variable (s : State)

/-! ## setPc -/

@[simp] theorem setPc_cpu_sp (v : Word) : (s.setPc v).cpu.sp = s.cpu.sp := rfl
@[simp] theorem setPc_cpu_pc (v : Word) : (s.setPc v).cpu.pc = v := rfl
@[simp] theorem setPc_cpu_flags (v : Word) : (s.setPc v).cpu.flags = s.cpu.flags := rfl
@[simp] theorem setPc_cpu_active (v : Word) : (s.setPc v).cpu.active = s.cpu.active := rfl
@[simp] theorem setPc_cpu_ie (v : Word) : (s.setPc v).cpu.ie = s.cpu.ie := rfl
@[simp] theorem setPc_mem (v : Word) : (s.setPc v).mem = s.mem := rfl
@[simp] theorem setPc_unserviced (v : Word) : (s.setPc v).unserviced = s.unserviced := rfl
@[simp] theorem setPc_hookAnswers (v : Word) : (s.setPc v).hookAnswers = s.hookAnswers := rfl
@[simp] theorem setPc_calls (v : Word) : (s.setPc v).calls = s.calls := rfl
@[simp] theorem setPc_history (v : Word) : (s.setPc v).history = s.history := rfl
@[simp] theorem setPc_result (v : Word) : (s.setPc v).result = s.result := rfl
@[simp] theorem setPc_reg (v : Word) (r : Reg) : (s.setPc v).reg r = s.reg r := by cases r <;> rfl
@[simp] theorem setPc_pair (v : Word) (p : Pair) : (s.setPc v).pair p = s.pair p := by cases p <;> rfl
@[simp] theorem setPc_hl (v : Word) : (s.setPc v).hl = s.hl := rfl
@[simp] theorem setPc_byteAt (v : Word) (a : Word) : (s.setPc v).byteAt a = s.byteAt a := rfl
@[simp] theorem setPc_admits (v : Word) (x : Access) : (s.setPc v).admits x = s.admits x := rfl

/-! ## setSp -/

@[simp] theorem setSp_cpu_sp (v : Word) : (s.setSp v).cpu.sp = v := rfl
@[simp] theorem setSp_cpu_pc (v : Word) : (s.setSp v).cpu.pc = s.cpu.pc := rfl
@[simp] theorem setSp_cpu_flags (v : Word) : (s.setSp v).cpu.flags = s.cpu.flags := rfl
@[simp] theorem setSp_cpu_active (v : Word) : (s.setSp v).cpu.active = s.cpu.active := rfl
@[simp] theorem setSp_cpu_ie (v : Word) : (s.setSp v).cpu.ie = s.cpu.ie := rfl
@[simp] theorem setSp_mem (v : Word) : (s.setSp v).mem = s.mem := rfl
@[simp] theorem setSp_unserviced (v : Word) : (s.setSp v).unserviced = s.unserviced := rfl
@[simp] theorem setSp_hookAnswers (v : Word) : (s.setSp v).hookAnswers = s.hookAnswers := rfl
@[simp] theorem setSp_calls (v : Word) : (s.setSp v).calls = s.calls := rfl
@[simp] theorem setSp_history (v : Word) : (s.setSp v).history = s.history := rfl
@[simp] theorem setSp_result (v : Word) : (s.setSp v).result = s.result := rfl
@[simp] theorem setSp_reg (v : Word) (r : Reg) : (s.setSp v).reg r = s.reg r := by cases r <;> rfl
@[simp] theorem setSp_hl (v : Word) : (s.setSp v).hl = s.hl := rfl
@[simp] theorem setSp_byteAt (v : Word) (a : Word) : (s.setSp v).byteAt a = s.byteAt a := rfl
@[simp] theorem setSp_admits (v : Word) (x : Access) : (s.setSp v).admits x = s.admits x := rfl

/-! ## setFlags -/

@[simp] theorem setFlags_cpu_sp (f : Flags) : (s.setFlags f).cpu.sp = s.cpu.sp := rfl
@[simp] theorem setFlags_cpu_pc (f : Flags) : (s.setFlags f).cpu.pc = s.cpu.pc := rfl
@[simp] theorem setFlags_cpu_flags (f : Flags) : (s.setFlags f).cpu.flags = f := rfl
@[simp] theorem setFlags_cpu_active (f : Flags) : (s.setFlags f).cpu.active = s.cpu.active := rfl
@[simp] theorem setFlags_cpu_ie (f : Flags) : (s.setFlags f).cpu.ie = s.cpu.ie := rfl
@[simp] theorem setFlags_mem (f : Flags) : (s.setFlags f).mem = s.mem := rfl
@[simp] theorem setFlags_unserviced (f : Flags) : (s.setFlags f).unserviced = s.unserviced := rfl
@[simp] theorem setFlags_hookAnswers (f : Flags) : (s.setFlags f).hookAnswers = s.hookAnswers := rfl
@[simp] theorem setFlags_calls (f : Flags) : (s.setFlags f).calls = s.calls := rfl
@[simp] theorem setFlags_history (f : Flags) : (s.setFlags f).history = s.history := rfl
@[simp] theorem setFlags_result (f : Flags) : (s.setFlags f).result = s.result := rfl
@[simp] theorem setFlags_reg (f : Flags) (r : Reg) : (s.setFlags f).reg r = s.reg r := by cases r <;> rfl
@[simp] theorem setFlags_pair (f : Flags) (p : Pair) : (s.setFlags f).pair p = s.pair p := by cases p <;> rfl
@[simp] theorem setFlags_hl (f : Flags) : (s.setFlags f).hl = s.hl := rfl
@[simp] theorem setFlags_byteAt (f : Flags) (a : Word) : (s.setFlags f).byteAt a = s.byteAt a := rfl
@[simp] theorem setFlags_admits (f : Flags) (x : Access) : (s.setFlags f).admits x = s.admits x := rfl

/-! ## setIe -/

@[simp] theorem setIe_cpu_sp (v : Bool) : (s.setIe v).cpu.sp = s.cpu.sp := rfl
@[simp] theorem setIe_cpu_pc (v : Bool) : (s.setIe v).cpu.pc = s.cpu.pc := rfl
@[simp] theorem setIe_cpu_flags (v : Bool) : (s.setIe v).cpu.flags = s.cpu.flags := rfl
@[simp] theorem setIe_cpu_active (v : Bool) : (s.setIe v).cpu.active = s.cpu.active := rfl
@[simp] theorem setIe_cpu_ie (v : Bool) : (s.setIe v).cpu.ie = v := rfl
@[simp] theorem setIe_mem (v : Bool) : (s.setIe v).mem = s.mem := rfl
@[simp] theorem setIe_unserviced (v : Bool) : (s.setIe v).unserviced = s.unserviced := rfl
@[simp] theorem setIe_hookAnswers (v : Bool) : (s.setIe v).hookAnswers = s.hookAnswers := rfl
@[simp] theorem setIe_calls (v : Bool) : (s.setIe v).calls = s.calls := rfl
@[simp] theorem setIe_history (v : Bool) : (s.setIe v).history = s.history := rfl
@[simp] theorem setIe_result (v : Bool) : (s.setIe v).result = s.result := rfl
@[simp] theorem setIe_reg (v : Bool) (r : Reg) : (s.setIe v).reg r = s.reg r := by cases r <;> rfl
@[simp] theorem setIe_pair (v : Bool) (p : Pair) : (s.setIe v).pair p = s.pair p := by cases p <;> rfl
@[simp] theorem setIe_hl (v : Bool) : (s.setIe v).hl = s.hl := rfl
@[simp] theorem setIe_byteAt (v : Bool) (a : Word) : (s.setIe v).byteAt a = s.byteAt a := rfl
@[simp] theorem setIe_admits (v : Bool) (x : Access) : (s.setIe v).admits x = s.admits x := rfl

/-! ## setActive -/

@[simp] theorem setActive_cpu_sp (v : Bool) : (s.setActive v).cpu.sp = s.cpu.sp := rfl
@[simp] theorem setActive_cpu_pc (v : Bool) : (s.setActive v).cpu.pc = s.cpu.pc := rfl
@[simp] theorem setActive_cpu_flags (v : Bool) : (s.setActive v).cpu.flags = s.cpu.flags := rfl
@[simp] theorem setActive_cpu_active (v : Bool) : (s.setActive v).cpu.active = v := rfl
@[simp] theorem setActive_cpu_ie (v : Bool) : (s.setActive v).cpu.ie = s.cpu.ie := rfl
@[simp] theorem setActive_mem (v : Bool) : (s.setActive v).mem = s.mem := rfl
@[simp] theorem setActive_unserviced (v : Bool) : (s.setActive v).unserviced = s.unserviced := rfl
@[simp] theorem setActive_hookAnswers (v : Bool) : (s.setActive v).hookAnswers = s.hookAnswers := rfl
@[simp] theorem setActive_calls (v : Bool) : (s.setActive v).calls = s.calls := rfl
@[simp] theorem setActive_history (v : Bool) : (s.setActive v).history = s.history := rfl
@[simp] theorem setActive_result (v : Bool) : (s.setActive v).result = s.result := rfl
@[simp] theorem setActive_reg (v : Bool) (r : Reg) : (s.setActive v).reg r = s.reg r := by cases r <;> rfl
@[simp] theorem setActive_pair (v : Bool) (p : Pair) : (s.setActive v).pair p = s.pair p := by cases p <;> rfl
@[simp] theorem setActive_hl (v : Bool) : (s.setActive v).hl = s.hl := rfl
@[simp] theorem setActive_byteAt (v : Bool) (a : Word) : (s.setActive v).byteAt a = s.byteAt a := rfl
@[simp] theorem setActive_admits (v : Bool) (x : Access) : (s.setActive v).admits x = s.admits x := rfl

/-! ## setMem -/

@[simp] theorem setMem_cpu_sp (m : Memory) : (s.setMem m).cpu.sp = s.cpu.sp := rfl
@[simp] theorem setMem_cpu_pc (m : Memory) : (s.setMem m).cpu.pc = s.cpu.pc := rfl
@[simp] theorem setMem_cpu_flags (m : Memory) : (s.setMem m).cpu.flags = s.cpu.flags := rfl
@[simp] theorem setMem_cpu_active (m : Memory) : (s.setMem m).cpu.active = s.cpu.active := rfl
@[simp] theorem setMem_cpu_ie (m : Memory) : (s.setMem m).cpu.ie = s.cpu.ie := rfl
@[simp] theorem setMem_mem (m : Memory) : (s.setMem m).mem = m := rfl
@[simp] theorem setMem_unserviced (m : Memory) : (s.setMem m).unserviced = s.unserviced := rfl
@[simp] theorem setMem_hookAnswers (m : Memory) : (s.setMem m).hookAnswers = s.hookAnswers := rfl
@[simp] theorem setMem_calls (m : Memory) : (s.setMem m).calls = s.calls := rfl
@[simp] theorem setMem_history (m : Memory) : (s.setMem m).history = s.history := rfl
@[simp] theorem setMem_result (m : Memory) : (s.setMem m).result = s.result := rfl
@[simp] theorem setMem_reg (m : Memory) (r : Reg) : (s.setMem m).reg r = s.reg r := by cases r <;> rfl
@[simp] theorem setMem_pair (m : Memory) (p : Pair) : (s.setMem m).pair p = s.pair p := by cases p <;> rfl
@[simp] theorem setMem_hl (m : Memory) : (s.setMem m).hl = s.hl := rfl
@[simp] theorem setMem_admits (m : Memory) (x : Access) : (s.setMem m).admits x = s.admits x := rfl
@[simp] theorem setMem_cpu (m : Memory) : (s.setMem m).cpu = s.cpu := rfl

/-! ## setHookAnswers -/

@[simp] theorem setHookAnswers_cpu_sp (v : Option (List (List Byte))) : (s.setHookAnswers v).cpu.sp = s.cpu.sp := rfl
@[simp] theorem setHookAnswers_cpu_pc (v : Option (List (List Byte))) : (s.setHookAnswers v).cpu.pc = s.cpu.pc := rfl
@[simp] theorem setHookAnswers_cpu_flags (v : Option (List (List Byte))) : (s.setHookAnswers v).cpu.flags = s.cpu.flags := rfl
@[simp] theorem setHookAnswers_cpu_active (v : Option (List (List Byte))) : (s.setHookAnswers v).cpu.active = s.cpu.active := rfl
@[simp] theorem setHookAnswers_cpu_ie (v : Option (List (List Byte))) : (s.setHookAnswers v).cpu.ie = s.cpu.ie := rfl
@[simp] theorem setHookAnswers_mem (v : Option (List (List Byte))) : (s.setHookAnswers v).mem = s.mem := rfl
@[simp] theorem setHookAnswers_unserviced (v : Option (List (List Byte))) : (s.setHookAnswers v).unserviced = s.unserviced := rfl
@[simp] theorem setHookAnswers_hookAnswers (v : Option (List (List Byte))) : (s.setHookAnswers v).hookAnswers = v := rfl
@[simp] theorem setHookAnswers_calls (v : Option (List (List Byte))) : (s.setHookAnswers v).calls = s.calls := rfl
@[simp] theorem setHookAnswers_history (v : Option (List (List Byte))) : (s.setHookAnswers v).history = s.history := rfl
@[simp] theorem setHookAnswers_result (v : Option (List (List Byte))) : (s.setHookAnswers v).result = s.result := rfl
@[simp] theorem setHookAnswers_reg (v : Option (List (List Byte))) (r : Reg) : (s.setHookAnswers v).reg r = s.reg r := by cases r <;> rfl
@[simp] theorem setHookAnswers_pair (v : Option (List (List Byte))) (p : Pair) : (s.setHookAnswers v).pair p = s.pair p := by cases p <;> rfl
@[simp] theorem setHookAnswers_hl (v : Option (List (List Byte))) : (s.setHookAnswers v).hl = s.hl := rfl
@[simp] theorem setHookAnswers_byteAt (v : Option (List (List Byte))) (a : Word) : (s.setHookAnswers v).byteAt a = s.byteAt a := rfl
@[simp] theorem setHookAnswers_admits (v : Option (List (List Byte))) (x : Access) : (s.setHookAnswers v).admits x = s.admits x := rfl
@[simp] theorem setHookAnswers_cpu (v : Option (List (List Byte))) : (s.setHookAnswers v).cpu = s.cpu := rfl

/-! ## setCalls -/

@[simp] theorem setCalls_cpu_sp (v : List HostCall) : (s.setCalls v).cpu.sp = s.cpu.sp := rfl
@[simp] theorem setCalls_cpu_pc (v : List HostCall) : (s.setCalls v).cpu.pc = s.cpu.pc := rfl
@[simp] theorem setCalls_cpu_flags (v : List HostCall) : (s.setCalls v).cpu.flags = s.cpu.flags := rfl
@[simp] theorem setCalls_cpu_active (v : List HostCall) : (s.setCalls v).cpu.active = s.cpu.active := rfl
@[simp] theorem setCalls_cpu_ie (v : List HostCall) : (s.setCalls v).cpu.ie = s.cpu.ie := rfl
@[simp] theorem setCalls_mem (v : List HostCall) : (s.setCalls v).mem = s.mem := rfl
@[simp] theorem setCalls_unserviced (v : List HostCall) : (s.setCalls v).unserviced = s.unserviced := rfl
@[simp] theorem setCalls_hookAnswers (v : List HostCall) : (s.setCalls v).hookAnswers = s.hookAnswers := rfl
@[simp] theorem setCalls_calls (v : List HostCall) : (s.setCalls v).calls = v := rfl
@[simp] theorem setCalls_history (v : List HostCall) : (s.setCalls v).history = s.history := rfl
@[simp] theorem setCalls_result (v : List HostCall) : (s.setCalls v).result = s.result := rfl
@[simp] theorem setCalls_reg (v : List HostCall) (r : Reg) : (s.setCalls v).reg r = s.reg r := by cases r <;> rfl
@[simp] theorem setCalls_pair (v : List HostCall) (p : Pair) : (s.setCalls v).pair p = s.pair p := by cases p <;> rfl
@[simp] theorem setCalls_hl (v : List HostCall) : (s.setCalls v).hl = s.hl := rfl
@[simp] theorem setCalls_byteAt (v : List HostCall) (a : Word) : (s.setCalls v).byteAt a = s.byteAt a := rfl
@[simp] theorem setCalls_admits (v : List HostCall) (x : Access) : (s.setCalls v).admits x = s.admits x := rfl
@[simp] theorem setCalls_cpu (v : List HostCall) : (s.setCalls v).cpu = s.cpu := rfl

/-! ## setResult -/

@[simp] theorem setResult_cpu_sp (v : CallResult) : (s.setResult v).cpu.sp = s.cpu.sp := rfl
@[simp] theorem setResult_cpu_pc (v : CallResult) : (s.setResult v).cpu.pc = s.cpu.pc := rfl
@[simp] theorem setResult_cpu_flags (v : CallResult) : (s.setResult v).cpu.flags = s.cpu.flags := rfl
@[simp] theorem setResult_cpu_active (v : CallResult) : (s.setResult v).cpu.active = s.cpu.active := rfl
@[simp] theorem setResult_cpu_ie (v : CallResult) : (s.setResult v).cpu.ie = s.cpu.ie := rfl
@[simp] theorem setResult_mem (v : CallResult) : (s.setResult v).mem = s.mem := rfl
@[simp] theorem setResult_unserviced (v : CallResult) : (s.setResult v).unserviced = s.unserviced := rfl
@[simp] theorem setResult_hookAnswers (v : CallResult) : (s.setResult v).hookAnswers = s.hookAnswers := rfl
@[simp] theorem setResult_calls (v : CallResult) : (s.setResult v).calls = s.calls := rfl
@[simp] theorem setResult_history (v : CallResult) : (s.setResult v).history = s.history := rfl
@[simp] theorem setResult_result (v : CallResult) : (s.setResult v).result = v := rfl
@[simp] theorem setResult_reg (v : CallResult) (r : Reg) : (s.setResult v).reg r = s.reg r := by cases r <;> rfl
@[simp] theorem setResult_pair (v : CallResult) (p : Pair) : (s.setResult v).pair p = s.pair p := by cases p <;> rfl
@[simp] theorem setResult_hl (v : CallResult) : (s.setResult v).hl = s.hl := rfl
@[simp] theorem setResult_byteAt (v : CallResult) (a : Word) : (s.setResult v).byteAt a = s.byteAt a := rfl
@[simp] theorem setResult_admits (v : CallResult) (x : Access) : (s.setResult v).admits x = s.admits x := rfl
@[simp] theorem setResult_cpu (v : CallResult) : (s.setResult v).cpu = s.cpu := rfl

/-! ## addEvent -/

@[simp] theorem addEvent_cpu_sp (e : PortEvent) : (s.addEvent e).cpu.sp = s.cpu.sp := rfl
@[simp] theorem addEvent_cpu_pc (e : PortEvent) : (s.addEvent e).cpu.pc = s.cpu.pc := rfl
@[simp] theorem addEvent_cpu_flags (e : PortEvent) : (s.addEvent e).cpu.flags = s.cpu.flags := rfl
@[simp] theorem addEvent_cpu_active (e : PortEvent) : (s.addEvent e).cpu.active = s.cpu.active := rfl
@[simp] theorem addEvent_cpu_ie (e : PortEvent) : (s.addEvent e).cpu.ie = s.cpu.ie := rfl
@[simp] theorem addEvent_mem (e : PortEvent) : (s.addEvent e).mem = s.mem := rfl
@[simp] theorem addEvent_unserviced (e : PortEvent) : (s.addEvent e).unserviced = s.unserviced := rfl
@[simp] theorem addEvent_hookAnswers (e : PortEvent) : (s.addEvent e).hookAnswers = s.hookAnswers := rfl
@[simp] theorem addEvent_calls (e : PortEvent) : (s.addEvent e).calls = s.calls := rfl
@[simp] theorem addEvent_history (e : PortEvent) : (s.addEvent e).history = s.history ++ [e] := rfl
@[simp] theorem addEvent_result (e : PortEvent) : (s.addEvent e).result = s.result := rfl
@[simp] theorem addEvent_reg (e : PortEvent) (r : Reg) : (s.addEvent e).reg r = s.reg r := by cases r <;> rfl
@[simp] theorem addEvent_pair (e : PortEvent) (p : Pair) : (s.addEvent e).pair p = s.pair p := by cases p <;> rfl
@[simp] theorem addEvent_hl (e : PortEvent) : (s.addEvent e).hl = s.hl := rfl
@[simp] theorem addEvent_byteAt (e : PortEvent) (a : Word) : (s.addEvent e).byteAt a = s.byteAt a := rfl
@[simp] theorem addEvent_admits (e : PortEvent) (x : Access) : (s.addEvent e).admits x = s.admits x := rfl
@[simp] theorem addEvent_cpu (e : PortEvent) : (s.addEvent e).cpu = s.cpu := rfl

@[simp] theorem setMem_byteAt (m : Memory) (a : Word) : (s.setMem m).byteAt a = m.read a.toNat := rfl

/-! ## setReg -/

@[simp] theorem setReg_reg (r q : Reg) (v : Byte) : (s.setReg r v).reg q = if q = r then v else s.reg q := by
  cases r <;> cases q <;> rfl
@[simp] theorem setReg_cpu_sp (r : Reg) (v : Byte) : (s.setReg r v).cpu.sp = s.cpu.sp := by cases r <;> rfl
@[simp] theorem setReg_cpu_pc (r : Reg) (v : Byte) : (s.setReg r v).cpu.pc = s.cpu.pc := by cases r <;> rfl
@[simp] theorem setReg_cpu_flags (r : Reg) (v : Byte) : (s.setReg r v).cpu.flags = s.cpu.flags := by cases r <;> rfl
@[simp] theorem setReg_cpu_active (r : Reg) (v : Byte) : (s.setReg r v).cpu.active = s.cpu.active := by cases r <;> rfl
@[simp] theorem setReg_cpu_ie (r : Reg) (v : Byte) : (s.setReg r v).cpu.ie = s.cpu.ie := by cases r <;> rfl
@[simp] theorem setReg_mem (r : Reg) (v : Byte) : (s.setReg r v).mem = s.mem := by cases r <;> rfl
@[simp] theorem setReg_unserviced (r : Reg) (v : Byte) : (s.setReg r v).unserviced = s.unserviced := by cases r <;> rfl
@[simp] theorem setReg_hookAnswers (r : Reg) (v : Byte) : (s.setReg r v).hookAnswers = s.hookAnswers := by cases r <;> rfl
@[simp] theorem setReg_calls (r : Reg) (v : Byte) : (s.setReg r v).calls = s.calls := by cases r <;> rfl
@[simp] theorem setReg_history (r : Reg) (v : Byte) : (s.setReg r v).history = s.history := by cases r <;> rfl
@[simp] theorem setReg_result (r : Reg) (v : Byte) : (s.setReg r v).result = s.result := by cases r <;> rfl
@[simp] theorem setReg_byteAt (r : Reg) (v : Byte) (a : Word) : (s.setReg r v).byteAt a = s.byteAt a := by cases r <;> rfl
@[simp] theorem setReg_admits (r : Reg) (v : Byte) (x : Access) : (s.setReg r v).admits x = s.admits x := by cases r <;> rfl

/-! ## setPair -/

@[simp] theorem setPair_cpu_pc (p : Pair) (v : Word) : (s.setPair p v).cpu.pc = s.cpu.pc := by cases p <;> rfl
@[simp] theorem setPair_cpu_flags (p : Pair) (v : Word) : (s.setPair p v).cpu.flags = s.cpu.flags := by cases p <;> rfl
@[simp] theorem setPair_cpu_active (p : Pair) (v : Word) : (s.setPair p v).cpu.active = s.cpu.active := by cases p <;> rfl
@[simp] theorem setPair_cpu_ie (p : Pair) (v : Word) : (s.setPair p v).cpu.ie = s.cpu.ie := by cases p <;> rfl
@[simp] theorem setPair_mem (p : Pair) (v : Word) : (s.setPair p v).mem = s.mem := by cases p <;> rfl
@[simp] theorem setPair_unserviced (p : Pair) (v : Word) : (s.setPair p v).unserviced = s.unserviced := by cases p <;> rfl
@[simp] theorem setPair_hookAnswers (p : Pair) (v : Word) : (s.setPair p v).hookAnswers = s.hookAnswers := by cases p <;> rfl
@[simp] theorem setPair_calls (p : Pair) (v : Word) : (s.setPair p v).calls = s.calls := by cases p <;> rfl
@[simp] theorem setPair_history (p : Pair) (v : Word) : (s.setPair p v).history = s.history := by cases p <;> rfl
@[simp] theorem setPair_result (p : Pair) (v : Word) : (s.setPair p v).result = s.result := by cases p <;> rfl
@[simp] theorem setPair_byteAt (p : Pair) (v : Word) (a : Word) : (s.setPair p v).byteAt a = s.byteAt a := by cases p <;> rfl
@[simp] theorem setPair_admits (p : Pair) (v : Word) (x : Access) : (s.setPair p v).admits x = s.admits x := by cases p <;> rfl
@[simp] theorem setPair_bc_reg (v : Word) (r : Reg) :
    (s.setPair .bc v).reg r = if r = .c then lowByte v else if r = .b then highByte v else s.reg r := by cases r <;> rfl
@[simp] theorem setPair_de_reg (v : Word) (r : Reg) :
    (s.setPair .de v).reg r = if r = .e then lowByte v else if r = .d then highByte v else s.reg r := by cases r <;> rfl
@[simp] theorem setPair_hl_reg (v : Word) (r : Reg) :
    (s.setPair .hl v).reg r = if r = .l then lowByte v else if r = .h then highByte v else s.reg r := by cases r <;> rfl
@[simp] theorem setPair_sp_reg (v : Word) (r : Reg) : (s.setPair .sp v).reg r = s.reg r := by cases r <;> rfl
@[simp] theorem setPair_sp_sp (v : Word) : (s.setPair .sp v).cpu.sp = v := rfl
@[simp] theorem setPair_bc_sp (v : Word) : (s.setPair .bc v).cpu.sp = s.cpu.sp := rfl
@[simp] theorem setPair_de_sp (v : Word) : (s.setPair .de v).cpu.sp = s.cpu.sp := rfl
@[simp] theorem setPair_hl_sp (v : Word) : (s.setPair .hl v).cpu.sp = s.cpu.sp := rfl

/-! ## Byte order -/

theorem toNat_concat (hi lo : Byte) : (concat hi lo).toNat = 256 * hi.toNat + lo.toNat := by
  simp only [concat, BitVec.toNat_append, Nat.shiftLeft_eq]
  rw [Nat.mul_comm, ← Nat.two_pow_add_eq_or_of_lt lo.isLt]

theorem toNat_lowByte (w : Word) : (lowByte w).toNat = w.toNat % 256 := by
  simp [lowByte, BitVec.extractLsb'_toNat]

theorem toNat_highByte (w : Word) : (highByte w).toNat = w.toNat / 256 := by
  simp only [highByte, BitVec.extractLsb'_toNat, Nat.shiftRight_eq_div_pow]
  have := w.isLt
  omega

@[simp] theorem lowByte_concat (hi lo : Byte) : lowByte (concat hi lo) = lo := by
  apply BitVec.eq_of_toNat_eq
  rw [toNat_lowByte, toNat_concat]
  have := lo.isLt
  omega

@[simp] theorem highByte_concat (hi lo : Byte) : highByte (concat hi lo) = hi := by
  apply BitVec.eq_of_toNat_eq
  rw [toNat_highByte, toNat_concat]
  have := lo.isLt
  omega

@[simp] theorem concat_high_low (w : Word) : concat (highByte w) (lowByte w) = w := by
  apply BitVec.eq_of_toNat_eq
  rw [toNat_concat, toNat_highByte, toNat_lowByte]
  omega

@[simp] theorem setPair_pair (p : Pair) (v : Word) : (s.setPair p v).pair p = v := by
  cases p <;> simp [State.pair]

end Sys2Proof.Machine
end

