-- ==== Sys2Proof/Laws/Ops.lean ====
section
/-! SUPPORT. What each shared operation can do, said once: for each, when it answers a value and which, and when it ends in the
bus fault of which access. -/

namespace Sys2Proof.Machine

/-! ## Sequencing -/

variable {α β : Type}

@[simp] theorem andThen_next (x : α) (f : α → Host.Outcome β Fault Refusal) : andThen (.next x) f = f x := rfl
@[simp] theorem andThen_fault (r : Fault) (f : α → Host.Outcome β Fault Refusal) : andThen (.fault r) f = .fault r := rfl
@[simp] theorem andThen_refused (r : Refusal) (f : α → Host.Outcome β Fault Refusal) :
    andThen (.refused r) f = .refused r := rfl

theorem andThen_eq_next {o : Host.Outcome α Fault Refusal} {f : α → Host.Outcome β Fault Refusal} {y : β} :
    andThen o f = .next y ↔ ∃ x, o = .next x ∧ f x = .next y := by
  cases o <;> simp

theorem andThen_eq_fault {o : Host.Outcome α Fault Refusal} {f : α → Host.Outcome β Fault Refusal} {r : Fault} :
    andThen o f = .fault r ↔ o = .fault r ∨ ∃ x, o = .next x ∧ f x = .fault r := by
  cases o <;> simp

theorem andThen_eq_refused {o : Host.Outcome α Fault Refusal} {f : α → Host.Outcome β Fault Refusal} {r : Refusal} :
    andThen o f = .refused r ↔ o = .refused r ∨ ∃ x, o = .next x ∧ f x = .refused r := by
  cases o <;> simp

theorem finish_eq_next {n : Nat} {s t : State} : finish n s = .next t ↔ s.setResult (.cycles n) = t := by
  simp [finish]

@[simp] theorem finish_ne_fault {n : Nat} {s : State} {r : Fault} : finish n s ≠ .fault r := by simp [finish]
@[simp] theorem finish_ne_refused {n : Nat} {s : State} {r : Refusal} : finish n s ≠ .refused r := by simp [finish]

/-! ## Byte accesses -/

variable {s t : State} {a : Word} {r : Fault}

theorem memRead1_eq_next {v : Byte} : memRead1 a s = .next v ↔ s.admits (.read a) = true ∧ s.byteAt a = v := by
  unfold memRead1; split <;> simp_all

theorem memRead1_eq_fault : memRead1 a s = .fault r ↔ s.admits (.read a) = false ∧ r = .busFault (.read a) := by
  unfold memRead1; split <;> simp_all only [Host.Outcome.fault.injEq, reduceCtorEq, false_and, true_and, Bool.not_eq_true, Bool.true_eq_false] <;> exact eq_comm

theorem memWrite1_eq_next {v : Byte} :
    memWrite1 a v s = .next t ↔ s.admits (.write a v) = true ∧ s.setMem (s.mem.write a.toNat v) = t := by
  unfold memWrite1; split <;> simp_all

theorem memWrite1_eq_fault {v : Byte} :
    memWrite1 a v s = .fault r ↔ s.admits (.write a v) = false ∧ r = .busFault (.write a v) := by
  unfold memWrite1; split <;> simp_all only [Host.Outcome.fault.injEq, reduceCtorEq, false_and, true_and, Bool.not_eq_true, Bool.true_eq_false] <;> exact eq_comm

@[simp] theorem memRead1_ne_refused {q : Refusal} : memRead1 a s ≠ .refused q := by
  unfold memRead1; split <;> simp

@[simp] theorem memWrite1_ne_refused {v : Byte} {q : Refusal} : memWrite1 a v s ≠ .refused q := by
  unfold memWrite1; split <;> simp

/-- After a byte write: the byte, and every other byte as before. -/
theorem byteAt_setMem_write (s : State) (a b : Word) (v : Byte) :
    (s.setMem (s.mem.write a.toNat v)).byteAt b = if b = a then v else s.byteAt b := by
  simp only [setMem_byteAt, read_write, BitVec.toNat_inj]
  rfl

/-! ## Word accesses -/

/-- The memory after a word write: low byte first, high byte at `a + 1` modulo 2^16. -/
def writeWord (m : Memory) (a v : Word) : Memory :=
  (m.write a.toNat (lowByte v)).write (a + 1).toNat (highByte v)

theorem memRead2_eq_next {w : Word} :
    memRead2 a s = .next w ↔
      s.admits (.read a) = true ∧ s.admits (.read (a + 1)) = true ∧ concat (s.byteAt (a + 1)) (s.byteAt a) = w := by
  simp only [memRead2, andThen_eq_next, memRead1_eq_next, Host.Outcome.next.injEq]
  constructor
  · rintro ⟨_, ⟨h1, rfl⟩, _, ⟨h2, rfl⟩, rfl⟩; exact ⟨h1, h2, rfl⟩
  · rintro ⟨h1, h2, rfl⟩; exact ⟨_, ⟨h1, rfl⟩, _, ⟨h2, rfl⟩, rfl⟩

theorem memRead2_eq_fault :
    memRead2 a s = .fault r ↔
      (s.admits (.read a) = false ∧ r = .busFault (.read a)) ∨
      (s.admits (.read a) = true ∧ s.admits (.read (a + 1)) = false ∧ r = .busFault (.read (a + 1))) := by
  simp [memRead2, andThen_eq_fault, memRead1_eq_fault, memRead1_eq_next]

@[simp] theorem memRead2_ne_refused {q : Refusal} : memRead2 a s ≠ .refused q := by
  simp [memRead2, andThen_eq_refused]

theorem memWrite2_eq_next {v : Word} :
    memWrite2 a v s = .next t ↔
      s.admits (.write a (lowByte v)) = true ∧ s.admits (.write (a + 1) (highByte v)) = true ∧
      s.setMem (writeWord s.mem a v) = t := by
  simp only [memWrite2, andThen_eq_next, memWrite1_eq_next]
  constructor
  · rintro ⟨_, ⟨h1, rfl⟩, h2, rfl⟩; exact ⟨h1, h2, rfl⟩
  · rintro ⟨h1, h2, rfl⟩; exact ⟨_, ⟨h1, rfl⟩, h2, rfl⟩

theorem memWrite2_eq_fault {v : Word} :
    memWrite2 a v s = .fault r ↔
      (s.admits (.write a (lowByte v)) = false ∧ r = .busFault (.write a (lowByte v))) ∨
      (s.admits (.write a (lowByte v)) = true ∧ s.admits (.write (a + 1) (highByte v)) = false ∧
        r = .busFault (.write (a + 1) (highByte v))) := by
  simp only [memWrite2, andThen_eq_fault, memWrite1_eq_fault, memWrite1_eq_next]
  constructor
  · rintro (h | ⟨_, ⟨h1, rfl⟩, h2⟩)
    · exact .inl h
    · exact .inr ⟨h1, h2⟩
  · rintro (h | ⟨h1, h2⟩)
    · exact .inl h
    · exact .inr ⟨_, ⟨h1, rfl⟩, h2⟩

@[simp] theorem memWrite2_ne_refused {v : Word} {q : Refusal} : memWrite2 a v s ≠ .refused q := by
  simp [memWrite2, andThen_eq_refused]

theorem word_ne_succ (a : Word) : a ≠ a + 1 := by
  intro h
  have := congrArg BitVec.toNat h
  rw [BitVec.toNat_add] at this
  have one : BitVec.toNat (1 : Word) = 1 := rfl
  omega

theorem read_writeWord (m : Memory) (a v b : Word) :
    (writeWord m a v).read b.toNat =
      if b = a + 1 then highByte v else if b = a then lowByte v else m.read b.toNat := by
  simp only [writeWord, read_write, BitVec.toNat_inj]

theorem wf_writeWord (m : Memory) (a v : Word) (hm : m.wf = true) : (writeWord m a v).wf = true :=
  wf_write _ _ _ (wf_write _ _ _ hm)

/-! ## Ports -/

theorem portIn_eq_next {p : Byte} {x : Byte × State} :
    portIn p s = .next x ↔
      s.admits (.input p) = true ∧
      (Config.input p s.history, s.addEvent (.input p (Config.input p s.history))) = x := by
  unfold portIn; split <;> simp_all

theorem portIn_eq_fault {p : Byte} :
    portIn p s = .fault r ↔ s.admits (.input p) = false ∧ r = .busFault (.input p) := by
  unfold portIn; split <;> simp_all only [Host.Outcome.fault.injEq, reduceCtorEq, false_and, true_and, Bool.not_eq_true, Bool.true_eq_false] <;> exact eq_comm

theorem portOut_eq_next {p v : Byte} :
    portOut p v s = .next t ↔ s.admits (.output p v) = true ∧ s.addEvent (.output p v) = t := by
  unfold portOut; split <;> simp_all

theorem portOut_eq_fault {p v : Byte} :
    portOut p v s = .fault r ↔ s.admits (.output p v) = false ∧ r = .busFault (.output p v) := by
  unfold portOut; split <;> simp_all only [Host.Outcome.fault.injEq, reduceCtorEq, false_and, true_and, Bool.not_eq_true, Bool.true_eq_false] <;> exact eq_comm

/-! ## The stack and interrupts -/

/-- The state after a push of `v`: SP moved down by 2 and the word stored there. -/
def pushed (s : State) (v : Word) : State :=
  (s.setSp (s.cpu.sp - 2)).setMem (writeWord s.mem (s.cpu.sp - 2) v)

theorem push16_eq_next {v : Word} :
    push16 v s = .next t ↔
      s.admits (.write (s.cpu.sp - 2) (lowByte v)) = true ∧
      s.admits (.write (s.cpu.sp - 2 + 1) (highByte v)) = true ∧ pushed s v = t := by
  simp only [push16, memWrite2_eq_next]; rfl

theorem push16_eq_fault {v : Word} :
    push16 v s = .fault r ↔
      (s.admits (.write (s.cpu.sp - 2) (lowByte v)) = false ∧ r = .busFault (.write (s.cpu.sp - 2) (lowByte v))) ∨
      (s.admits (.write (s.cpu.sp - 2) (lowByte v)) = true ∧
        s.admits (.write (s.cpu.sp - 2 + 1) (highByte v)) = false ∧
        r = .busFault (.write (s.cpu.sp - 2 + 1) (highByte v))) := by
  simp only [push16, memWrite2_eq_fault]; rfl

theorem pop16_eq_next {x : Word × State} :
    pop16 s = .next x ↔
      s.admits (.read s.cpu.sp) = true ∧ s.admits (.read (s.cpu.sp + 1)) = true ∧
      (concat (s.byteAt (s.cpu.sp + 1)) (s.byteAt s.cpu.sp), s.setSp (s.cpu.sp + 2)) = x := by
  simp only [pop16, andThen_eq_next, memRead2_eq_next, Host.Outcome.next.injEq]
  constructor
  · rintro ⟨_, ⟨h1, h2, rfl⟩, rfl⟩; exact ⟨h1, h2, rfl⟩
  · rintro ⟨h1, h2, rfl⟩; exact ⟨_, ⟨h1, h2, rfl⟩, rfl⟩

theorem pop16_eq_fault :
    pop16 s = .fault r ↔
      (s.admits (.read s.cpu.sp) = false ∧ r = .busFault (.read s.cpu.sp)) ∨
      (s.admits (.read s.cpu.sp) = true ∧ s.admits (.read (s.cpu.sp + 1)) = false ∧
        r = .busFault (.read (s.cpu.sp + 1))) := by
  simp [pop16, andThen_eq_fault, memRead2_eq_fault]

theorem takeInterrupt_eq_next {code : Byte} :
    takeInterrupt code s = .next t ↔
      s.admits (.write (s.cpu.sp - 2) (lowByte s.cpu.pc)) = true ∧
      s.admits (.write (s.cpu.sp - 2 + 1) (highByte s.cpu.pc)) = true ∧
      (pushed ((s.setIe false).setActive true) s.cpu.pc).setPc ((code &&& 0x38).setWidth 16) = t := by
  simp only [takeInterrupt, andThen_eq_next, push16_eq_next, Host.Outcome.next.injEq]
  constructor
  · rintro ⟨_, ⟨h1, h2, rfl⟩, rfl⟩; exact ⟨h1, h2, rfl⟩
  · rintro ⟨h1, h2, rfl⟩; exact ⟨_, ⟨h1, h2, rfl⟩, rfl⟩

/-- The bus fault of an interrupt's push (log 14). -/
theorem takeInterrupt_eq_fault {code : Byte} :
    takeInterrupt code s = .fault r ↔
      (s.admits (.write (s.cpu.sp - 2) (lowByte s.cpu.pc)) = false ∧
        r = .busFault (.write (s.cpu.sp - 2) (lowByte s.cpu.pc))) ∨
      (s.admits (.write (s.cpu.sp - 2) (lowByte s.cpu.pc)) = true ∧
        s.admits (.write (s.cpu.sp - 2 + 1) (highByte s.cpu.pc)) = false ∧
        r = .busFault (.write (s.cpu.sp - 2 + 1) (highByte s.cpu.pc))) := by
  simp only [takeInterrupt, andThen_eq_fault, push16_eq_fault, reduceCtorEq, and_false, exists_false, or_false]
  rfl

@[simp] theorem takeInterrupt_ne_refused {code : Byte} {q : Refusal} : takeInterrupt code s ≠ .refused q := by
  simp [takeInterrupt, push16, andThen_eq_refused]

theorem returnFromStack_eq_next :
    returnFromStack s = .next t ↔
      s.admits (.read s.cpu.sp) = true ∧ s.admits (.read (s.cpu.sp + 1)) = true ∧
      (s.setSp (s.cpu.sp + 2)).setPc (concat (s.byteAt (s.cpu.sp + 1)) (s.byteAt s.cpu.sp)) = t := by
  simp only [returnFromStack, andThen_eq_next, pop16_eq_next, Host.Outcome.next.injEq]
  constructor
  · rintro ⟨_, ⟨h1, h2, rfl⟩, rfl⟩; exact ⟨h1, h2, rfl⟩
  · rintro ⟨h1, h2, rfl⟩; exact ⟨_, ⟨h1, h2, rfl⟩, rfl⟩

end Sys2Proof.Machine
end

