-- ==== Sys2Proof/Laws/Exec.lean ====
section
/-! SUPPORT. `exec` family by family: one equation for all rows of a family, so that a proof cites it instead of taking
the dispatch apart. -/

namespace Sys2Proof.Machine

variable (s : State)

theorem exec_movRegReg (dst src : Reg) : exec (.movRegReg dst src) s = movRegReg dst src s := by
  cases dst <;> cases src <;> rfl

theorem exec_movRegMem (dst : Reg) : exec (.movRegMem dst) s = movRegMem dst s := by cases dst <;> rfl

theorem exec_movMemReg (src : Reg) : exec (.movMemReg src) s = movMemReg src s := by cases src <;> rfl

theorem exec_mviReg (dst : Reg) (v : Byte) : exec (.mviReg dst v) s = mviReg dst v s := by cases dst <;> rfl

theorem exec_lxi (p : Pair) (w : Word) : exec (.lxi p w) s = lxiPair p w s := by cases p <;> rfl

theorem exec_ldax (p : IndexPair) : exec (.ldax p) s = loadA 7 (s.pair p.pair) s := by cases p <;> rfl

theorem exec_stax (p : IndexPair) : exec (.stax p) s = storeA 7 (s.pair p.pair) s := by cases p <;> rfl

theorem exec_aluReg (op : AluOp) (r : Reg) : exec (.aluReg op r) s = aluReg op r s := by
  cases op <;> cases r <;> rfl

theorem exec_aluMem (op : AluOp) : exec (.aluMem op) s = aluMem op s := by cases op <;> rfl

theorem exec_aluImm (op : AluOp) (v : Byte) : exec (.aluImm op v) s = aluImm op v s := by cases op <;> rfl

theorem exec_inrReg (r : Reg) : exec (.inrReg r) s = countReg increment r s := by cases r <;> rfl

theorem exec_dcrReg (r : Reg) : exec (.dcrReg r) s = countReg decrement r s := by cases r <;> rfl

theorem exec_inx (p : Pair) : exec (.inx p) s = finish 5 (s.setPair p (s.pair p + 1)) := by cases p <;> rfl

theorem exec_dcx (p : Pair) : exec (.dcx p) s = finish 5 (s.setPair p (s.pair p - 1)) := by cases p <;> rfl

theorem exec_dad (p : Pair) : exec (.dad p) s = dadPair p s := by cases p <;> rfl

theorem exec_push (p : StackPair) : exec (.push p) s = pushPair p.pair s := by cases p <;> rfl

theorem exec_pop (p : StackPair) : exec (.pop p) s = popPair p.pair s := by cases p <;> rfl

theorem exec_jumpIf (code : Cond) (w : Word) : exec (.jumpIf code w) s = jumpIf code w s := by cases code <;> rfl

theorem exec_callIf (code : Cond) (w : Word) : exec (.callIf code w) s = callIf code w s := by cases code <;> rfl

theorem exec_retIf (code : Cond) : exec (.retIf code) s = retIf code s := by cases code <;> rfl

theorem exec_rst (n : BitVec 3) : exec (.rst n) s = restart (n.setWidth 16) s := by
  match n with
  | 0#3 | 1#3 | 2#3 | 3#3 | 4#3 | 5#3 | 6#3 | 7#3 => rfl

end Sys2Proof.Machine
end

