-- ==== Sys2Proof/Laws/Families.lean ====
section
/-! SUPPORT. The case split over the instruction set by family: 256 constructors as 21 families, the single rows, and the
twelve undocumented values. -/

namespace Sys2Proof

/-- A property of every instruction, family by family. -/
theorem Instr.byFamily {P : Instr → Prop}
    (movRegReg : ∀ dst src, P (.movRegReg dst src))
    (movRegMem : ∀ dst, P (.movRegMem dst))
    (movMemReg : ∀ src, P (.movMemReg src))
    (mviReg : ∀ dst v, P (.mviReg dst v))
    (lxi : ∀ p w, P (.lxi p w))
    (ldax : ∀ p, P (.ldax p))
    (stax : ∀ p, P (.stax p))
    (aluReg : ∀ op r, P (.aluReg op r))
    (aluMem : ∀ op, P (.aluMem op))
    (aluImm : ∀ op v, P (.aluImm op v))
    (inrReg : ∀ r, P (.inrReg r))
    (dcrReg : ∀ r, P (.dcrReg r))
    (inx : ∀ p, P (.inx p))
    (dcx : ∀ p, P (.dcx p))
    (dad : ∀ p, P (.dad p))
    (push : ∀ p, P (.push p))
    (pop : ∀ p, P (.pop p))
    (jumpIf : ∀ code w, P (.jumpIf code w))
    (callIf : ∀ code w, P (.callIf code w))
    (retIf : ∀ code, P (.retIf code))
    (rst : ∀ n, P (.rst n))
    (nop : P .nop)
    (rlc : P .rlc)
    (rrc : P .rrc)
    (ral : P .ral)
    (rar : P .rar)
    (shld : ∀ x, P (.shld x))
    (daa : P .daa)
    (lhld : ∀ x, P (.lhld x))
    (cma : P .cma)
    (sta : ∀ x, P (.sta x))
    (inrM : P .inrM)
    (dcrM : P .dcrM)
    (mviM : ∀ x, P (.mviM x))
    (stc : P .stc)
    (lda : ∀ x, P (.lda x))
    (cmc : P .cmc)
    (hlt : P .hlt)
    (jmp : ∀ x, P (.jmp x))
    (ret : P .ret)
    (call : ∀ x, P (.call x))
    (outPort : ∀ x, P (.outPort x))
    (inPort : ∀ x, P (.inPort x))
    (xthl : P .xthl)
    (pchl : P .pchl)
    (xchg : P .xchg)
    (popPsw : P .popPsw)
    (di : P .di)
    (pushPsw : P .pushPsw)
    (sphl : P .sphl)
    (ei : P .ei)
    (undocumented : ∀ i, i.documented = false → P i) : ∀ i, P i := by
  intro i
  cases i with
  | nop => exact nop
  | lxiB x => exact lxi .bc x
  | staxB => exact stax .bc
  | inxB => exact inx .bc
  | inrB => exact inrReg .b
  | dcrB => exact dcrReg .b
  | mviB x => exact mviReg .b x
  | rlc => exact rlc
  | undocumented08 => exact undocumented .undocumented08 rfl
  | dadB => exact dad .bc
  | ldaxB => exact ldax .bc
  | dcxB => exact dcx .bc
  | inrC => exact inrReg .c
  | dcrC => exact dcrReg .c
  | mviC x => exact mviReg .c x
  | rrc => exact rrc
  | undocumented10 => exact undocumented .undocumented10 rfl
  | lxiD x => exact lxi .de x
  | staxD => exact stax .de
  | inxD => exact inx .de
  | inrD => exact inrReg .d
  | dcrD => exact dcrReg .d
  | mviD x => exact mviReg .d x
  | ral => exact ral
  | undocumented18 => exact undocumented .undocumented18 rfl
  | dadD => exact dad .de
  | ldaxD => exact ldax .de
  | dcxD => exact dcx .de
  | inrE => exact inrReg .e
  | dcrE => exact dcrReg .e
  | mviE x => exact mviReg .e x
  | rar => exact rar
  | undocumented20 => exact undocumented .undocumented20 rfl
  | lxiH x => exact lxi .hl x
  | shld x => exact shld x
  | inxH => exact inx .hl
  | inrH => exact inrReg .h
  | dcrH => exact dcrReg .h
  | mviH x => exact mviReg .h x
  | daa => exact daa
  | undocumented28 => exact undocumented .undocumented28 rfl
  | dadH => exact dad .hl
  | lhld x => exact lhld x
  | dcxH => exact dcx .hl
  | inrL => exact inrReg .l
  | dcrL => exact dcrReg .l
  | mviL x => exact mviReg .l x
  | cma => exact cma
  | undocumented30 => exact undocumented .undocumented30 rfl
  | lxiSp x => exact lxi .sp x
  | sta x => exact sta x
  | inxSp => exact inx .sp
  | inrM => exact inrM
  | dcrM => exact dcrM
  | mviM x => exact mviM x
  | stc => exact stc
  | undocumented38 => exact undocumented .undocumented38 rfl
  | dadSp => exact dad .sp
  | lda x => exact lda x
  | dcxSp => exact dcx .sp
  | inrA => exact inrReg .a
  | dcrA => exact dcrReg .a
  | mviA x => exact mviReg .a x
  | cmc => exact cmc
  | movBB => exact movRegReg .b .b
  | movBC => exact movRegReg .b .c
  | movBD => exact movRegReg .b .d
  | movBE => exact movRegReg .b .e
  | movBH => exact movRegReg .b .h
  | movBL => exact movRegReg .b .l
  | movBM => exact movRegMem .b
  | movBA => exact movRegReg .b .a
  | movCB => exact movRegReg .c .b
  | movCC => exact movRegReg .c .c
  | movCD => exact movRegReg .c .d
  | movCE => exact movRegReg .c .e
  | movCH => exact movRegReg .c .h
  | movCL => exact movRegReg .c .l
  | movCM => exact movRegMem .c
  | movCA => exact movRegReg .c .a
  | movDB => exact movRegReg .d .b
  | movDC => exact movRegReg .d .c
  | movDD => exact movRegReg .d .d
  | movDE => exact movRegReg .d .e
  | movDH => exact movRegReg .d .h
  | movDL => exact movRegReg .d .l
  | movDM => exact movRegMem .d
  | movDA => exact movRegReg .d .a
  | movEB => exact movRegReg .e .b
  | movEC => exact movRegReg .e .c
  | movED => exact movRegReg .e .d
  | movEE => exact movRegReg .e .e
  | movEH => exact movRegReg .e .h
  | movEL => exact movRegReg .e .l
  | movEM => exact movRegMem .e
  | movEA => exact movRegReg .e .a
  | movHB => exact movRegReg .h .b
  | movHC => exact movRegReg .h .c
  | movHD => exact movRegReg .h .d
  | movHE => exact movRegReg .h .e
  | movHH => exact movRegReg .h .h
  | movHL => exact movRegReg .h .l
  | movHM => exact movRegMem .h
  | movHA => exact movRegReg .h .a
  | movLB => exact movRegReg .l .b
  | movLC => exact movRegReg .l .c
  | movLD => exact movRegReg .l .d
  | movLE => exact movRegReg .l .e
  | movLH => exact movRegReg .l .h
  | movLL => exact movRegReg .l .l
  | movLM => exact movRegMem .l
  | movLA => exact movRegReg .l .a
  | movMB => exact movMemReg .b
  | movMC => exact movMemReg .c
  | movMD => exact movMemReg .d
  | movME => exact movMemReg .e
  | movMH => exact movMemReg .h
  | movML => exact movMemReg .l
  | hlt => exact hlt
  | movMA => exact movMemReg .a
  | movAB => exact movRegReg .a .b
  | movAC => exact movRegReg .a .c
  | movAD => exact movRegReg .a .d
  | movAE => exact movRegReg .a .e
  | movAH => exact movRegReg .a .h
  | movAL => exact movRegReg .a .l
  | movAM => exact movRegMem .a
  | movAA => exact movRegReg .a .a
  | addB => exact aluReg .add .b
  | addC => exact aluReg .add .c
  | addD => exact aluReg .add .d
  | addE => exact aluReg .add .e
  | addH => exact aluReg .add .h
  | addL => exact aluReg .add .l
  | addM => exact aluMem .add
  | addA => exact aluReg .add .a
  | adcB => exact aluReg .adc .b
  | adcC => exact aluReg .adc .c
  | adcD => exact aluReg .adc .d
  | adcE => exact aluReg .adc .e
  | adcH => exact aluReg .adc .h
  | adcL => exact aluReg .adc .l
  | adcM => exact aluMem .adc
  | adcA => exact aluReg .adc .a
  | subB => exact aluReg .sub .b
  | subC => exact aluReg .sub .c
  | subD => exact aluReg .sub .d
  | subE => exact aluReg .sub .e
  | subH => exact aluReg .sub .h
  | subL => exact aluReg .sub .l
  | subM => exact aluMem .sub
  | subA => exact aluReg .sub .a
  | sbbB => exact aluReg .sbb .b
  | sbbC => exact aluReg .sbb .c
  | sbbD => exact aluReg .sbb .d
  | sbbE => exact aluReg .sbb .e
  | sbbH => exact aluReg .sbb .h
  | sbbL => exact aluReg .sbb .l
  | sbbM => exact aluMem .sbb
  | sbbA => exact aluReg .sbb .a
  | anaB => exact aluReg .ana .b
  | anaC => exact aluReg .ana .c
  | anaD => exact aluReg .ana .d
  | anaE => exact aluReg .ana .e
  | anaH => exact aluReg .ana .h
  | anaL => exact aluReg .ana .l
  | anaM => exact aluMem .ana
  | anaA => exact aluReg .ana .a
  | xraB => exact aluReg .xra .b
  | xraC => exact aluReg .xra .c
  | xraD => exact aluReg .xra .d
  | xraE => exact aluReg .xra .e
  | xraH => exact aluReg .xra .h
  | xraL => exact aluReg .xra .l
  | xraM => exact aluMem .xra
  | xraA => exact aluReg .xra .a
  | oraB => exact aluReg .ora .b
  | oraC => exact aluReg .ora .c
  | oraD => exact aluReg .ora .d
  | oraE => exact aluReg .ora .e
  | oraH => exact aluReg .ora .h
  | oraL => exact aluReg .ora .l
  | oraM => exact aluMem .ora
  | oraA => exact aluReg .ora .a
  | cmpB => exact aluReg .cmp .b
  | cmpC => exact aluReg .cmp .c
  | cmpD => exact aluReg .cmp .d
  | cmpE => exact aluReg .cmp .e
  | cmpH => exact aluReg .cmp .h
  | cmpL => exact aluReg .cmp .l
  | cmpM => exact aluMem .cmp
  | cmpA => exact aluReg .cmp .a
  | rnz => exact retIf .nz
  | popB => exact pop .bc
  | jnz x => exact jumpIf .nz x
  | jmp x => exact jmp x
  | cnz x => exact callIf .nz x
  | pushB => exact push .bc
  | adi x => exact aluImm .add x
  | rst0 => exact rst 0
  | rz => exact retIf .z
  | ret => exact ret
  | jz x => exact jumpIf .z x
  | undocumentedCB => exact undocumented .undocumentedCB rfl
  | cz x => exact callIf .z x
  | call x => exact call x
  | aci x => exact aluImm .adc x
  | rst1 => exact rst 1
  | rnc => exact retIf .nc
  | popD => exact pop .de
  | jnc x => exact jumpIf .nc x
  | outPort x => exact outPort x
  | cnc x => exact callIf .nc x
  | pushD => exact push .de
  | sui x => exact aluImm .sub x
  | rst2 => exact rst 2
  | rc => exact retIf .c
  | undocumentedD9 => exact undocumented .undocumentedD9 rfl
  | jc x => exact jumpIf .c x
  | inPort x => exact inPort x
  | cc x => exact callIf .c x
  | undocumentedDD => exact undocumented .undocumentedDD rfl
  | sbi x => exact aluImm .sbb x
  | rst3 => exact rst 3
  | rpo => exact retIf .po
  | popH => exact pop .hl
  | jpo x => exact jumpIf .po x
  | xthl => exact xthl
  | cpo x => exact callIf .po x
  | pushH => exact push .hl
  | ani x => exact aluImm .ana x
  | rst4 => exact rst 4
  | rpe => exact retIf .pe
  | pchl => exact pchl
  | jpe x => exact jumpIf .pe x
  | xchg => exact xchg
  | cpe x => exact callIf .pe x
  | undocumentedED => exact undocumented .undocumentedED rfl
  | xri x => exact aluImm .xra x
  | rst5 => exact rst 5
  | rp => exact retIf .p
  | popPsw => exact popPsw
  | jp x => exact jumpIf .p x
  | di => exact di
  | cp x => exact callIf .p x
  | pushPsw => exact pushPsw
  | ori x => exact aluImm .ora x
  | rst6 => exact rst 6
  | rm => exact retIf .m
  | sphl => exact sphl
  | jm x => exact jumpIf .m x
  | ei => exact ei
  | cm x => exact callIf .m x
  | undocumentedFD => exact undocumented .undocumentedFD rfl
  | cpi x => exact aluImm .cmp x
  | rst7 => exact rst 7

end Sys2Proof
end

