-- ==== Sys2Proof/Laws/HostCalls.lean ====
section
/-! SUPPORT. What the host's interrupt call can do, and what construction on a supplied bus leaves. -/

namespace Sys2Proof.Machine

variable {s t : State} {code : Byte}

/-! ## Interrupts -/

/-- `interrupt` answers a next state exactly when it is masked, or accepts an RST code. -/
theorem interrupt_eq_next :
    interrupt code s = .next t ↔
      (s.cpu.ie = false ∧ s.setResult .interruptMasked = t) ∨
      (s.cpu.ie = true ∧ isRestartCode code = true ∧
        ∃ u, takeInterrupt code s = .next u ∧ u.setResult .interruptAccepted = t) := by
  unfold interrupt
  cases s.cpu.ie <;> cases isRestartCode code <;> simp [andThen_eq_next]

/-- It ends in a fault exactly when it accepts the code and the entry's push is not serviced (log 14). -/
theorem interrupt_eq_fault {r : Fault} :
    interrupt code s = .fault r ↔
      s.cpu.ie = true ∧ isRestartCode code = true ∧ takeInterrupt code s = .fault r := by
  unfold interrupt
  cases s.cpu.ie <;> cases isRestartCode code <;> simp [andThen_eq_fault]

/-! ## Construction on a supplied bus -/

theorem read_load (cells : List (Word × Byte)) (a : Word) :
    (Memory.load cells).read a.toNat = cellAt cells a := by
  induction cells with
  | nil => rfl
  | cons cell rest ih => simp only [Memory.load, read_write, BitVec.toNat_inj, ih, cellAt]

theorem wf_load (cells : List (Word × Byte)) : (Memory.load cells).wf = true := by
  induction cells with
  | nil => rfl
  | cons cell rest ih => exact wf_write _ _ _ ih

@[simp] theorem install_none : install none = State.reset := rfl
@[simp] theorem install_cpu (b : Option Bus) : (install b).cpu = Cpu.reset := by cases b <;> rfl
@[simp] theorem install_calls (b : Option Bus) : (install b).calls = [] := by cases b <;> rfl
@[simp] theorem install_history (b : Option Bus) : (install b).history = [] := by cases b <;> rfl
@[simp] theorem install_result (b : Option Bus) : (install b).result = .notCalled := by cases b <;> rfl
@[simp] theorem install_hookAnswers (bus : Bus) : (install (some bus)).hookAnswers = bus.hookAnswers := rfl
@[simp] theorem install_byteAt (bus : Bus) (a : Word) : (install (some bus)).byteAt a = bus.byteAt a :=
  read_load bus.cells a
@[simp] theorem install_admits (bus : Bus) (x : Access) :
    (install (some bus)).admits x = decide (x ∉ bus.unserviced) := rfl

theorem install_wf (b : Option Bus) : (install b).mem.wf = true := by
  cases b with
  | none => rfl
  | some bus => exact wf_load bus.cells

/-! ## The lists of a Bus stand for the parameters of R8 -/

/-- Some list holds every value of a bit vector. -/
theorem exists_allValues (w : Nat) : ∃ l : List (BitVec w), ∀ v, v ∈ l :=
  ⟨(List.range (2 ^ w)).map (BitVec.ofNat w), fun v =>
    List.mem_map.mpr ⟨v.toNat, List.mem_range.mpr v.isLt, by simp⟩⟩

theorem cellAt_map_of_mem (f : Word → Byte) (l : List Word) (a : Word) (h : a ∈ l) :
    cellAt (l.map fun x => (x, f x)) a = f a := by
  induction l with
  | nil => cases h
  | cons x rest ih =>
    by_cases hx : a = x
    · simp [cellAt, hx]
    · simpa [cellAt, hx] using ih (by simpa [hx] using h)

/-- For every initial memory IMAGE (D12) there are cells that hold it. -/
theorem cells_for_any_image (image : Word → Byte) :
    ∃ cells, ∀ unserviced hook a, (Bus.mk cells unserviced hook).byteAt a = image a :=
  let ⟨words, hw⟩ := exists_allValues 16
  ⟨words.map fun x => (x, image x), fun _ _ a => cellAt_map_of_mem image words a (hw a)⟩

/-- For every predicate BUS_ADMITS (D20) there is a list of exactly the accesses it does not admit. -/
theorem unserviced_for_any_board (admits : Access → Bool) : ∃ l : List Access, ∀ x, x ∈ l ↔ admits x = false := by
  obtain ⟨words, hw⟩ := exists_allValues 16
  obtain ⟨bytes, hb⟩ := exists_allValues 8
  refine ⟨((words.map Access.read ++ words.flatMap fun a => bytes.map (Access.write a)) ++
    (bytes.map Access.input ++ bytes.flatMap fun p => bytes.map (Access.output p))).filter (!admits ·), fun x => ?_⟩
  cases x <;> simp [hw, hb]

end Sys2Proof.Machine
end

