-- ==== Sys2Proof/Laws/PerInstr.lean ====
section
/-! SUPPORT. Laws per instruction: the family EncodedLength says that an encoding has as many bytes as its opcode byte alone
announces (30_encoding.md R100). -/

namespace Sys2Proof.Laws.EncodedLength

/-- The encoding is as long as the decoder's length function says of its first byte. -/
def Statement (i : Instr) : Prop := (encode i).length = instrLength ((encode i).headD 0)

theorem nop : Statement .nop := by show 1 = instrLength 0x00; decide
theorem lxiB (x : Word) : Statement (.lxiB x) := by show 3 = instrLength 0x01; decide
theorem staxB : Statement .staxB := by show 1 = instrLength 0x02; decide
theorem inxB : Statement .inxB := by show 1 = instrLength 0x03; decide
theorem inrB : Statement .inrB := by show 1 = instrLength 0x04; decide
theorem dcrB : Statement .dcrB := by show 1 = instrLength 0x05; decide
theorem mviB (x : Byte) : Statement (.mviB x) := by show 2 = instrLength 0x06; decide
theorem rlc : Statement .rlc := by show 1 = instrLength 0x07; decide
theorem undocumented08 : Statement .undocumented08 := by show 1 = instrLength 0x08; decide
theorem dadB : Statement .dadB := by show 1 = instrLength 0x09; decide
theorem ldaxB : Statement .ldaxB := by show 1 = instrLength 0x0A; decide
theorem dcxB : Statement .dcxB := by show 1 = instrLength 0x0B; decide
theorem inrC : Statement .inrC := by show 1 = instrLength 0x0C; decide
theorem dcrC : Statement .dcrC := by show 1 = instrLength 0x0D; decide
theorem mviC (x : Byte) : Statement (.mviC x) := by show 2 = instrLength 0x0E; decide
theorem rrc : Statement .rrc := by show 1 = instrLength 0x0F; decide
theorem undocumented10 : Statement .undocumented10 := by show 1 = instrLength 0x10; decide
theorem lxiD (x : Word) : Statement (.lxiD x) := by show 3 = instrLength 0x11; decide
theorem staxD : Statement .staxD := by show 1 = instrLength 0x12; decide
theorem inxD : Statement .inxD := by show 1 = instrLength 0x13; decide
theorem inrD : Statement .inrD := by show 1 = instrLength 0x14; decide
theorem dcrD : Statement .dcrD := by show 1 = instrLength 0x15; decide
theorem mviD (x : Byte) : Statement (.mviD x) := by show 2 = instrLength 0x16; decide
theorem ral : Statement .ral := by show 1 = instrLength 0x17; decide
theorem undocumented18 : Statement .undocumented18 := by show 1 = instrLength 0x18; decide
theorem dadD : Statement .dadD := by show 1 = instrLength 0x19; decide
theorem ldaxD : Statement .ldaxD := by show 1 = instrLength 0x1A; decide
theorem dcxD : Statement .dcxD := by show 1 = instrLength 0x1B; decide
theorem inrE : Statement .inrE := by show 1 = instrLength 0x1C; decide
theorem dcrE : Statement .dcrE := by show 1 = instrLength 0x1D; decide
theorem mviE (x : Byte) : Statement (.mviE x) := by show 2 = instrLength 0x1E; decide
theorem rar : Statement .rar := by show 1 = instrLength 0x1F; decide
theorem undocumented20 : Statement .undocumented20 := by show 1 = instrLength 0x20; decide
theorem lxiH (x : Word) : Statement (.lxiH x) := by show 3 = instrLength 0x21; decide
theorem shld (x : Word) : Statement (.shld x) := by show 3 = instrLength 0x22; decide
theorem inxH : Statement .inxH := by show 1 = instrLength 0x23; decide
theorem inrH : Statement .inrH := by show 1 = instrLength 0x24; decide
theorem dcrH : Statement .dcrH := by show 1 = instrLength 0x25; decide
theorem mviH (x : Byte) : Statement (.mviH x) := by show 2 = instrLength 0x26; decide
theorem daa : Statement .daa := by show 1 = instrLength 0x27; decide
theorem undocumented28 : Statement .undocumented28 := by show 1 = instrLength 0x28; decide
theorem dadH : Statement .dadH := by show 1 = instrLength 0x29; decide
theorem lhld (x : Word) : Statement (.lhld x) := by show 3 = instrLength 0x2A; decide
theorem dcxH : Statement .dcxH := by show 1 = instrLength 0x2B; decide
theorem inrL : Statement .inrL := by show 1 = instrLength 0x2C; decide
theorem dcrL : Statement .dcrL := by show 1 = instrLength 0x2D; decide
theorem mviL (x : Byte) : Statement (.mviL x) := by show 2 = instrLength 0x2E; decide
theorem cma : Statement .cma := by show 1 = instrLength 0x2F; decide
theorem undocumented30 : Statement .undocumented30 := by show 1 = instrLength 0x30; decide
theorem lxiSp (x : Word) : Statement (.lxiSp x) := by show 3 = instrLength 0x31; decide
theorem sta (x : Word) : Statement (.sta x) := by show 3 = instrLength 0x32; decide
theorem inxSp : Statement .inxSp := by show 1 = instrLength 0x33; decide
theorem inrM : Statement .inrM := by show 1 = instrLength 0x34; decide
theorem dcrM : Statement .dcrM := by show 1 = instrLength 0x35; decide
theorem mviM (x : Byte) : Statement (.mviM x) := by show 2 = instrLength 0x36; decide
theorem stc : Statement .stc := by show 1 = instrLength 0x37; decide
theorem undocumented38 : Statement .undocumented38 := by show 1 = instrLength 0x38; decide
theorem dadSp : Statement .dadSp := by show 1 = instrLength 0x39; decide
theorem lda (x : Word) : Statement (.lda x) := by show 3 = instrLength 0x3A; decide
theorem dcxSp : Statement .dcxSp := by show 1 = instrLength 0x3B; decide
theorem inrA : Statement .inrA := by show 1 = instrLength 0x3C; decide
theorem dcrA : Statement .dcrA := by show 1 = instrLength 0x3D; decide
theorem mviA (x : Byte) : Statement (.mviA x) := by show 2 = instrLength 0x3E; decide
theorem cmc : Statement .cmc := by show 1 = instrLength 0x3F; decide
theorem movBB : Statement .movBB := by show 1 = instrLength 0x40; decide
theorem movBC : Statement .movBC := by show 1 = instrLength 0x41; decide
theorem movBD : Statement .movBD := by show 1 = instrLength 0x42; decide
theorem movBE : Statement .movBE := by show 1 = instrLength 0x43; decide
theorem movBH : Statement .movBH := by show 1 = instrLength 0x44; decide
theorem movBL : Statement .movBL := by show 1 = instrLength 0x45; decide
theorem movBM : Statement .movBM := by show 1 = instrLength 0x46; decide
theorem movBA : Statement .movBA := by show 1 = instrLength 0x47; decide
theorem movCB : Statement .movCB := by show 1 = instrLength 0x48; decide
theorem movCC : Statement .movCC := by show 1 = instrLength 0x49; decide
theorem movCD : Statement .movCD := by show 1 = instrLength 0x4A; decide
theorem movCE : Statement .movCE := by show 1 = instrLength 0x4B; decide
theorem movCH : Statement .movCH := by show 1 = instrLength 0x4C; decide
theorem movCL : Statement .movCL := by show 1 = instrLength 0x4D; decide
theorem movCM : Statement .movCM := by show 1 = instrLength 0x4E; decide
theorem movCA : Statement .movCA := by show 1 = instrLength 0x4F; decide
theorem movDB : Statement .movDB := by show 1 = instrLength 0x50; decide
theorem movDC : Statement .movDC := by show 1 = instrLength 0x51; decide
theorem movDD : Statement .movDD := by show 1 = instrLength 0x52; decide
theorem movDE : Statement .movDE := by show 1 = instrLength 0x53; decide
theorem movDH : Statement .movDH := by show 1 = instrLength 0x54; decide
theorem movDL : Statement .movDL := by show 1 = instrLength 0x55; decide
theorem movDM : Statement .movDM := by show 1 = instrLength 0x56; decide
theorem movDA : Statement .movDA := by show 1 = instrLength 0x57; decide
theorem movEB : Statement .movEB := by show 1 = instrLength 0x58; decide
theorem movEC : Statement .movEC := by show 1 = instrLength 0x59; decide
theorem movED : Statement .movED := by show 1 = instrLength 0x5A; decide
theorem movEE : Statement .movEE := by show 1 = instrLength 0x5B; decide
theorem movEH : Statement .movEH := by show 1 = instrLength 0x5C; decide
theorem movEL : Statement .movEL := by show 1 = instrLength 0x5D; decide
theorem movEM : Statement .movEM := by show 1 = instrLength 0x5E; decide
theorem movEA : Statement .movEA := by show 1 = instrLength 0x5F; decide
theorem movHB : Statement .movHB := by show 1 = instrLength 0x60; decide
theorem movHC : Statement .movHC := by show 1 = instrLength 0x61; decide
theorem movHD : Statement .movHD := by show 1 = instrLength 0x62; decide
theorem movHE : Statement .movHE := by show 1 = instrLength 0x63; decide
theorem movHH : Statement .movHH := by show 1 = instrLength 0x64; decide
theorem movHL : Statement .movHL := by show 1 = instrLength 0x65; decide
theorem movHM : Statement .movHM := by show 1 = instrLength 0x66; decide
theorem movHA : Statement .movHA := by show 1 = instrLength 0x67; decide
theorem movLB : Statement .movLB := by show 1 = instrLength 0x68; decide
theorem movLC : Statement .movLC := by show 1 = instrLength 0x69; decide
theorem movLD : Statement .movLD := by show 1 = instrLength 0x6A; decide
theorem movLE : Statement .movLE := by show 1 = instrLength 0x6B; decide
theorem movLH : Statement .movLH := by show 1 = instrLength 0x6C; decide
theorem movLL : Statement .movLL := by show 1 = instrLength 0x6D; decide
theorem movLM : Statement .movLM := by show 1 = instrLength 0x6E; decide
theorem movLA : Statement .movLA := by show 1 = instrLength 0x6F; decide
theorem movMB : Statement .movMB := by show 1 = instrLength 0x70; decide
theorem movMC : Statement .movMC := by show 1 = instrLength 0x71; decide
theorem movMD : Statement .movMD := by show 1 = instrLength 0x72; decide
theorem movME : Statement .movME := by show 1 = instrLength 0x73; decide
theorem movMH : Statement .movMH := by show 1 = instrLength 0x74; decide
theorem movML : Statement .movML := by show 1 = instrLength 0x75; decide
theorem hlt : Statement .hlt := by show 1 = instrLength 0x76; decide
theorem movMA : Statement .movMA := by show 1 = instrLength 0x77; decide
theorem movAB : Statement .movAB := by show 1 = instrLength 0x78; decide
theorem movAC : Statement .movAC := by show 1 = instrLength 0x79; decide
theorem movAD : Statement .movAD := by show 1 = instrLength 0x7A; decide
theorem movAE : Statement .movAE := by show 1 = instrLength 0x7B; decide
theorem movAH : Statement .movAH := by show 1 = instrLength 0x7C; decide
theorem movAL : Statement .movAL := by show 1 = instrLength 0x7D; decide
theorem movAM : Statement .movAM := by show 1 = instrLength 0x7E; decide
theorem movAA : Statement .movAA := by show 1 = instrLength 0x7F; decide
theorem addB : Statement .addB := by show 1 = instrLength 0x80; decide
theorem addC : Statement .addC := by show 1 = instrLength 0x81; decide
theorem addD : Statement .addD := by show 1 = instrLength 0x82; decide
theorem addE : Statement .addE := by show 1 = instrLength 0x83; decide
theorem addH : Statement .addH := by show 1 = instrLength 0x84; decide
theorem addL : Statement .addL := by show 1 = instrLength 0x85; decide
theorem addM : Statement .addM := by show 1 = instrLength 0x86; decide
theorem addA : Statement .addA := by show 1 = instrLength 0x87; decide
theorem adcB : Statement .adcB := by show 1 = instrLength 0x88; decide
theorem adcC : Statement .adcC := by show 1 = instrLength 0x89; decide
theorem adcD : Statement .adcD := by show 1 = instrLength 0x8A; decide
theorem adcE : Statement .adcE := by show 1 = instrLength 0x8B; decide
theorem adcH : Statement .adcH := by show 1 = instrLength 0x8C; decide
theorem adcL : Statement .adcL := by show 1 = instrLength 0x8D; decide
theorem adcM : Statement .adcM := by show 1 = instrLength 0x8E; decide
theorem adcA : Statement .adcA := by show 1 = instrLength 0x8F; decide
theorem subB : Statement .subB := by show 1 = instrLength 0x90; decide
theorem subC : Statement .subC := by show 1 = instrLength 0x91; decide
theorem subD : Statement .subD := by show 1 = instrLength 0x92; decide
theorem subE : Statement .subE := by show 1 = instrLength 0x93; decide
theorem subH : Statement .subH := by show 1 = instrLength 0x94; decide
theorem subL : Statement .subL := by show 1 = instrLength 0x95; decide
theorem subM : Statement .subM := by show 1 = instrLength 0x96; decide
theorem subA : Statement .subA := by show 1 = instrLength 0x97; decide
theorem sbbB : Statement .sbbB := by show 1 = instrLength 0x98; decide
theorem sbbC : Statement .sbbC := by show 1 = instrLength 0x99; decide
theorem sbbD : Statement .sbbD := by show 1 = instrLength 0x9A; decide
theorem sbbE : Statement .sbbE := by show 1 = instrLength 0x9B; decide
theorem sbbH : Statement .sbbH := by show 1 = instrLength 0x9C; decide
theorem sbbL : Statement .sbbL := by show 1 = instrLength 0x9D; decide
theorem sbbM : Statement .sbbM := by show 1 = instrLength 0x9E; decide
theorem sbbA : Statement .sbbA := by show 1 = instrLength 0x9F; decide
theorem anaB : Statement .anaB := by show 1 = instrLength 0xA0; decide
theorem anaC : Statement .anaC := by show 1 = instrLength 0xA1; decide
theorem anaD : Statement .anaD := by show 1 = instrLength 0xA2; decide
theorem anaE : Statement .anaE := by show 1 = instrLength 0xA3; decide
theorem anaH : Statement .anaH := by show 1 = instrLength 0xA4; decide
theorem anaL : Statement .anaL := by show 1 = instrLength 0xA5; decide
theorem anaM : Statement .anaM := by show 1 = instrLength 0xA6; decide
theorem anaA : Statement .anaA := by show 1 = instrLength 0xA7; decide
theorem xraB : Statement .xraB := by show 1 = instrLength 0xA8; decide
theorem xraC : Statement .xraC := by show 1 = instrLength 0xA9; decide
theorem xraD : Statement .xraD := by show 1 = instrLength 0xAA; decide
theorem xraE : Statement .xraE := by show 1 = instrLength 0xAB; decide
theorem xraH : Statement .xraH := by show 1 = instrLength 0xAC; decide
theorem xraL : Statement .xraL := by show 1 = instrLength 0xAD; decide
theorem xraM : Statement .xraM := by show 1 = instrLength 0xAE; decide
theorem xraA : Statement .xraA := by show 1 = instrLength 0xAF; decide
theorem oraB : Statement .oraB := by show 1 = instrLength 0xB0; decide
theorem oraC : Statement .oraC := by show 1 = instrLength 0xB1; decide
theorem oraD : Statement .oraD := by show 1 = instrLength 0xB2; decide
theorem oraE : Statement .oraE := by show 1 = instrLength 0xB3; decide
theorem oraH : Statement .oraH := by show 1 = instrLength 0xB4; decide
theorem oraL : Statement .oraL := by show 1 = instrLength 0xB5; decide
theorem oraM : Statement .oraM := by show 1 = instrLength 0xB6; decide
theorem oraA : Statement .oraA := by show 1 = instrLength 0xB7; decide
theorem cmpB : Statement .cmpB := by show 1 = instrLength 0xB8; decide
theorem cmpC : Statement .cmpC := by show 1 = instrLength 0xB9; decide
theorem cmpD : Statement .cmpD := by show 1 = instrLength 0xBA; decide
theorem cmpE : Statement .cmpE := by show 1 = instrLength 0xBB; decide
theorem cmpH : Statement .cmpH := by show 1 = instrLength 0xBC; decide
theorem cmpL : Statement .cmpL := by show 1 = instrLength 0xBD; decide
theorem cmpM : Statement .cmpM := by show 1 = instrLength 0xBE; decide
theorem cmpA : Statement .cmpA := by show 1 = instrLength 0xBF; decide
theorem rnz : Statement .rnz := by show 1 = instrLength 0xC0; decide
theorem popB : Statement .popB := by show 1 = instrLength 0xC1; decide
theorem jnz (x : Word) : Statement (.jnz x) := by show 3 = instrLength 0xC2; decide
theorem jmp (x : Word) : Statement (.jmp x) := by show 3 = instrLength 0xC3; decide
theorem cnz (x : Word) : Statement (.cnz x) := by show 3 = instrLength 0xC4; decide
theorem pushB : Statement .pushB := by show 1 = instrLength 0xC5; decide
theorem adi (x : Byte) : Statement (.adi x) := by show 2 = instrLength 0xC6; decide
theorem rst0 : Statement .rst0 := by show 1 = instrLength 0xC7; decide
theorem rz : Statement .rz := by show 1 = instrLength 0xC8; decide
theorem ret : Statement .ret := by show 1 = instrLength 0xC9; decide
theorem jz (x : Word) : Statement (.jz x) := by show 3 = instrLength 0xCA; decide
theorem undocumentedCB : Statement .undocumentedCB := by show 1 = instrLength 0xCB; decide
theorem cz (x : Word) : Statement (.cz x) := by show 3 = instrLength 0xCC; decide
theorem call (x : Word) : Statement (.call x) := by show 3 = instrLength 0xCD; decide
theorem aci (x : Byte) : Statement (.aci x) := by show 2 = instrLength 0xCE; decide
theorem rst1 : Statement .rst1 := by show 1 = instrLength 0xCF; decide
theorem rnc : Statement .rnc := by show 1 = instrLength 0xD0; decide
theorem popD : Statement .popD := by show 1 = instrLength 0xD1; decide
theorem jnc (x : Word) : Statement (.jnc x) := by show 3 = instrLength 0xD2; decide
theorem outPort (x : Byte) : Statement (.outPort x) := by show 2 = instrLength 0xD3; decide
theorem cnc (x : Word) : Statement (.cnc x) := by show 3 = instrLength 0xD4; decide
theorem pushD : Statement .pushD := by show 1 = instrLength 0xD5; decide
theorem sui (x : Byte) : Statement (.sui x) := by show 2 = instrLength 0xD6; decide
theorem rst2 : Statement .rst2 := by show 1 = instrLength 0xD7; decide
theorem rc : Statement .rc := by show 1 = instrLength 0xD8; decide
theorem undocumentedD9 : Statement .undocumentedD9 := by show 1 = instrLength 0xD9; decide
theorem jc (x : Word) : Statement (.jc x) := by show 3 = instrLength 0xDA; decide
theorem inPort (x : Byte) : Statement (.inPort x) := by show 2 = instrLength 0xDB; decide
theorem cc (x : Word) : Statement (.cc x) := by show 3 = instrLength 0xDC; decide
theorem undocumentedDD : Statement .undocumentedDD := by show 1 = instrLength 0xDD; decide
theorem sbi (x : Byte) : Statement (.sbi x) := by show 2 = instrLength 0xDE; decide
theorem rst3 : Statement .rst3 := by show 1 = instrLength 0xDF; decide
theorem rpo : Statement .rpo := by show 1 = instrLength 0xE0; decide
theorem popH : Statement .popH := by show 1 = instrLength 0xE1; decide
theorem jpo (x : Word) : Statement (.jpo x) := by show 3 = instrLength 0xE2; decide
theorem xthl : Statement .xthl := by show 1 = instrLength 0xE3; decide
theorem cpo (x : Word) : Statement (.cpo x) := by show 3 = instrLength 0xE4; decide
theorem pushH : Statement .pushH := by show 1 = instrLength 0xE5; decide
theorem ani (x : Byte) : Statement (.ani x) := by show 2 = instrLength 0xE6; decide
theorem rst4 : Statement .rst4 := by show 1 = instrLength 0xE7; decide
theorem rpe : Statement .rpe := by show 1 = instrLength 0xE8; decide
theorem pchl : Statement .pchl := by show 1 = instrLength 0xE9; decide
theorem jpe (x : Word) : Statement (.jpe x) := by show 3 = instrLength 0xEA; decide
theorem xchg : Statement .xchg := by show 1 = instrLength 0xEB; decide
theorem cpe (x : Word) : Statement (.cpe x) := by show 3 = instrLength 0xEC; decide
theorem undocumentedED : Statement .undocumentedED := by show 1 = instrLength 0xED; decide
theorem xri (x : Byte) : Statement (.xri x) := by show 2 = instrLength 0xEE; decide
theorem rst5 : Statement .rst5 := by show 1 = instrLength 0xEF; decide
theorem rp : Statement .rp := by show 1 = instrLength 0xF0; decide
theorem popPsw : Statement .popPsw := by show 1 = instrLength 0xF1; decide
theorem jp (x : Word) : Statement (.jp x) := by show 3 = instrLength 0xF2; decide
theorem di : Statement .di := by show 1 = instrLength 0xF3; decide
theorem cp (x : Word) : Statement (.cp x) := by show 3 = instrLength 0xF4; decide
theorem pushPsw : Statement .pushPsw := by show 1 = instrLength 0xF5; decide
theorem ori (x : Byte) : Statement (.ori x) := by show 2 = instrLength 0xF6; decide
theorem rst6 : Statement .rst6 := by show 1 = instrLength 0xF7; decide
theorem rm : Statement .rm := by show 1 = instrLength 0xF8; decide
theorem sphl : Statement .sphl := by show 1 = instrLength 0xF9; decide
theorem jm (x : Word) : Statement (.jm x) := by show 3 = instrLength 0xFA; decide
theorem ei : Statement .ei := by show 1 = instrLength 0xFB; decide
theorem cm (x : Word) : Statement (.cm x) := by show 3 = instrLength 0xFC; decide
theorem undocumentedFD : Statement .undocumentedFD := by show 1 = instrLength 0xFD; decide
theorem cpi (x : Byte) : Statement (.cpi x) := by show 2 = instrLength 0xFE; decide
theorem rst7 : Statement .rst7 := by show 1 = instrLength 0xFF; decide

end Sys2Proof.Laws.EncodedLength
end

