-- ==== Sys2Proof/Tests/Slice0.lean ====
section
/-! SUPPORT. The model's own tests. Expected results come from the spec alone: the encodings of spec/30_encoding.md R107, the
vectors V, I, T, K of spec/95_test_vectors.md (one per rule), and for each statement of Obligations.lean that has hypotheses a
witness that meets them. -/

namespace Sys2Proof.Tests

open Sys2Proof Sys2Proof.Machine Sys2Proof.Safety

/-! ## Helpers -/

def noFlags : Flags := { cy := false, ac := false, p := false, s := false, z := false }

/-- Bytes put into memory one by one. -/
def put (m : Memory) (cells : List (Word × Byte)) : Memory := cells.foldl (fun m c => m.write c.1.toNat c.2) m

/-- The start state of a vector: the cells and then the instruction's bytes in memory. -/
def vector (bytes : List Byte) (cells : List (Word × Byte)) (cpu : Cpu) : State :=
  { State.reset with cpu := cpu, mem := (put [] cells).writeBytes cpu.pc bytes }

/-- One step from `s` returns `n` cycles and leaves the core `cpu`, the cells written, and the port events; nothing else
changes. -/
def ends (s : State) (n : Nat) (cpu : Cpu) (cells : List (Word × Byte)) (events : List PortEvent) : Bool :=
  match step s with
  | .next t => decide (t = { s with cpu := cpu, mem := put s.mem cells, history := events, result := .cycles n })
  | _ => false

/-- The host's one call `c` from `s` returns `r` and leaves the core `cpu` and the cells written. -/
def answers (s : State) (c : HostCall) (r : CallResult) (cpu : Cpu) (cells : List (Word × Byte)) : Bool :=
  match step { s with calls := [c] } with
  | .next t => decide (t = { s with cpu := cpu, mem := put s.mem cells, result := r })
  | _ => false

def faultsWith (o : Host.Outcome State Fault Refusal) (r : Fault) : Bool :=
  match o with
  | .fault x => decide (x = r)
  | _ => false

def refusedWith (o : Host.Outcome State Fault Refusal) (r : Refusal) : Bool :=
  match o with
  | .refused x => decide (x = r)
  | _ => false

/-- A board that does not service these accesses. -/
def denies (xs : List Access) : State := { State.reset with unserviced := xs }

/-- The start of the trap rows T: ipc = 0x0100, and the hook answers `answer`. -/
def trapped (answer : List Byte) (cells : List (Word × Byte)) (cpu : Cpu) : State :=
  { vector [] cells cpu with hookAnswers := some [answer] }

/-- As `ends`, for a state with one hook answer: the step consumes it. -/
def trapEnds (s : State) (n : Nat) (cpu : Cpu) (cells : List (Word × Byte)) : Bool :=
  match step s with
  | .next t => decide (t = { s with cpu := cpu, mem := put s.mem cells, hookAnswers := some [], result := .cycles n })
  | _ => false

/-! ## Well-formedness: ill-formed terms are refused -/

/-- R108: an undocumented value is no instruction of the documented set. -/
theorem test_wf_undocumented_refused : Instr.undocumentedCB.documented = false ∧ Instr.nop.documented = true := by decide

/-- K3, K4: 65536 bytes fit, 65537 do not. -/
theorem test_wf_image_too_large_refused :
    imageFits (List.replicate 65537 0x00) = false ∧ imageFits (List.replicate 65536 0x00) = true :=
  ⟨decide_eq_false (by rw [List.length_replicate]; decide), decide_eq_true (by rw [List.length_replicate]; decide)⟩

/-- R113: a replacement is a sequence of 1 to 4 bytes. -/
theorem test_wf_replacement_too_long_refused :
    replacementFits [0x3E, 0x42, 0xFF, 0xFF, 0xFF] = false ∧ replacementFits [0x3E, 0x42, 0xFF, 0xFF] = true := by decide

/-! ## Decoding: words written out bit by bit from R107, each family at least once -/

def decodesAs (rows : List (List Byte × Instr)) : Bool :=
  rows.all fun r => match decode r.1 with
    | .ok (i, []) => decide (i = r.2)
    | _ => false

theorem test_decode_quadrant0 : decodesAs
    [([0b00000000], .nop), ([0b00010001, 0b00110100, 0b00010010], .lxiD 0x1234), ([0b00000010], .staxB),
     ([0b00100010, 0b00000001, 0b00100000], .shld 0x2001), ([0b00110010, 0b00000000, 0b00000010], .sta 0x0200), ([0b00110011], .inxSp),
     ([0b00011100], .inrE), ([0b00110100], .inrM), ([0b00101101], .dcrL),
     ([0b00110101], .dcrM), ([0b00111110, 0b01000010], .mviA 0x42), ([0b00110110, 0b10011001], .mviM 0x99),
     ([0b00000111], .rlc)] = true := by decide

theorem test_decode_quadrant0_1 : decodesAs
    [([0b00001111], .rrc), ([0b00010111], .ral), ([0b00011111], .rar),
     ([0b00100111], .daa), ([0b00101111], .cma), ([0b00110111], .stc),
     ([0b00111111], .cmc), ([0b00101001], .dadH), ([0b00011010], .ldaxD),
     ([0b00101010, 0b11111111, 0b11111111], .lhld 0xFFFF), ([0b00111010, 0b00110100, 0b00010010], .lda 0x1234), ([0b00001011], .dcxB),
     ([0b01010011], .movDE)] = true := by decide

theorem test_decode_quadrant1_2 : decodesAs
    [([0b01111110], .movAM), ([0b01110100], .movMH), ([0b01110110], .hlt),
     ([0b10000111], .addA), ([0b10001001], .adcC), ([0b10010011], .subE),
     ([0b10011110], .sbbM), ([0b10100110], .anaM), ([0b10101111], .xraA),
     ([0b10110001], .oraC), ([0b10111101], .cmpL), ([0b11010000], .rnc),
     ([0b11010001], .popD)] = true := by decide

theorem test_decode_quadrant3 : decodesAs
    [([0b11110001], .popPsw), ([0b11101010, 0b00000000, 0b00010000], .jpe 0x1000), ([0b11000011, 0b00000000, 0b00000001], .jmp 0x0100),
     ([0b11010011, 0b00000010], .outPort 0x02), ([0b11011011, 0b00000001], .inPort 0x01), ([0b11100011], .xthl),
     ([0b11101011], .xchg), ([0b11110011], .di), ([0b11111011], .ei),
     ([0b11111100, 0b00000000, 0b00100000], .cm 0x2000), ([0b11100101], .pushH), ([0b11110101], .pushPsw),
     ([0b11001101, 0b00000000, 0b00010000], .call 0x1000)] = true := by decide

theorem test_decode_quadrant3_rest : decodesAs
    [([0b11000110, 0b01000101], .adi 0x45), ([0b11001110, 0b00000000], .aci 0x00), ([0b11010110, 0b00000001], .sui 0x01),
     ([0b11011110, 0b00000001], .sbi 0x01), ([0b11100110, 0b00001111], .ani 0x0F), ([0b11101110, 0b11111111], .xri 0xFF),
     ([0b11110110, 0b00000001], .ori 0x01), ([0b11111110, 0b00000101], .cpi 0x05), ([0b11101111], .rst5),
     ([0b11001001], .ret), ([0b11101001], .pchl), ([0b11111001], .sphl),
     ([0b11011101], .undocumentedDD)] = true := by decide

/-- A missing byte, and no byte at all, are rejected by name (R100). -/
theorem test_decode_rejects : decode [] = .error .noBytes ∧ decode [0xC3, 0x00] = .error (.truncated 0xC3) :=
  ⟨rfl, rfl⟩

/-- The host's numbering: bit 0 is the least significant bit of the first byte (LXI B,1234H is 01 34 12). -/
theorem test_decode_table_word : decodeTableWord 24 0x123401 = some (.lxiB 0x1234) := by decide

/-- The placed word is what the very next step runs (MVI A,42H). -/
theorem test_fetch_word : ends (State.reset.withFetchWord 16 0x423E) 7 { Cpu.reset with a := 0x42, pc := 0x0002 } [] [] = true := by
  decide

/-! ## Instructions: vectors of spec/95_test_vectors.md section 2, one per rule -/

theorem test_V1_movBC : ends (vector [0x41] []
    { Cpu.reset with c := 0x5A, pc := 0x0100 })
    5 { Cpu.reset with c := 0x5A, pc := 0x0101, b := 0x5A } [] [] = true := by decide -- R140

theorem test_V4_movAM : ends (vector [0x7E] [(0xFFFF, 0x5C)]
    { Cpu.reset with h := 0xFF, l := 0xFF, pc := 0x0100 })
    7 { Cpu.reset with h := 0xFF, l := 0xFF, pc := 0x0101, a := 0x5C } [] [] = true := by decide -- R141

theorem test_V6_movMB : ends (vector [0x70] []
    { Cpu.reset with h := 0xFF, l := 0xFF, b := 0xAB, pc := 0x0100 })
    7 { Cpu.reset with h := 0xFF, l := 0xFF, b := 0xAB, pc := 0x0101 } [(0xFFFF, 0xAB)] [] = true := by decide -- R142

theorem test_V7_mviB42H : ends (vector [0x06, 0x42] []
    { Cpu.reset with pc := 0x0100 })
    7 { Cpu.reset with pc := 0x0102, b := 0x42 } [] [] = true := by decide -- R143

theorem test_V8_mviM99H : ends (vector [0x36, 0x99] []
    { Cpu.reset with h := 0x20, l := 0x01, pc := 0x0100 })
    10 { Cpu.reset with h := 0x20, l := 0x01, pc := 0x0102 } [(0x2001, 0x99)] [] = true := by decide -- R144

theorem test_V9_lxiB0201H : ends (vector [0x01, 0x01, 0x02] []
    { Cpu.reset with pc := 0x0100 })
    10 { Cpu.reset with pc := 0x0103, b := 0x02, c := 0x01 } [] [] = true := by decide -- R145

theorem test_V10_lxiSp0Ffffh : ends (vector [0x31, 0xFF, 0xFF] []
    { Cpu.reset with pc := 0x0100 })
    10 { Cpu.reset with pc := 0x0103, sp := 0xFFFF } [] [] = true := by decide -- R145

theorem test_V11_lda3000H : ends (vector [0x3A, 0x00, 0x30] [(0x3000, 0x11)]
    { Cpu.reset with pc := 0x0100 })
    13 { Cpu.reset with pc := 0x0103, a := 0x11 } [] [] = true := by decide -- R146

theorem test_V12_sta3001H : ends (vector [0x32, 0x01, 0x30] []
    { Cpu.reset with a := 0x33, pc := 0x0100 })
    13 { Cpu.reset with a := 0x33, pc := 0x0103 } [(0x3001, 0x33)] [] = true := by decide -- R147

theorem test_V13_lhld0Ffffh : ends (vector [0x2A, 0xFF, 0xFF] [(0xFFFF, 0x34), (0x0000, 0x12)]
    { Cpu.reset with pc := 0x0100 })
    16 { Cpu.reset with pc := 0x0103, h := 0x12, l := 0x34 } [] [] = true := by decide -- R148

theorem test_V15_shld0Ffffh : ends (vector [0x22, 0xFF, 0xFF] []
    { Cpu.reset with h := 0xAB, l := 0xCD, pc := 0x0100 })
    16 { Cpu.reset with h := 0xAB, l := 0xCD, pc := 0x0103 } [(0x0000, 0xAB), (0xFFFF, 0xCD)] [] = true := by decide -- R149

theorem test_V16_ldaxD : ends (vector [0x1A] [(0x3000, 0x11)]
    { Cpu.reset with d := 0x30, e := 0x00, pc := 0x0100 })
    7 { Cpu.reset with d := 0x30, e := 0x00, pc := 0x0101, a := 0x11 } [] [] = true := by decide -- R150

theorem test_V17_staxB : ends (vector [0x02] []
    { Cpu.reset with b := 0x30, c := 0x01, a := 0x22, pc := 0x0100 })
    7 { Cpu.reset with b := 0x30, c := 0x01, a := 0x22, pc := 0x0101 } [(0x3001, 0x22)] [] = true := by decide -- R151

theorem test_V18_xchg : ends (vector [0xEB] []
    { Cpu.reset with d := 0x11, e := 0x22, h := 0x33, l := 0x44, pc := 0x0100 })
    4 { Cpu.reset with d := 0x33, e := 0x44, h := 0x11, l := 0x22, pc := 0x0101 } [] [] = true := by decide -- R152

theorem test_V20_addA : ends (vector [0x87] []
    { Cpu.reset with a := 0xFF, pc := 0x0100 })
    4 { Cpu.reset with a := 0xFE, pc := 0x0101, flags := { noFlags with cy := true, ac := true, s := true } } [] [] = true := by decide -- R185

theorem test_V21_adi0C6H : ends (vector [0xC6, 0xC6] []
    { Cpu.reset with a := 0x3A, pc := 0x0100 })
    7 { Cpu.reset with a := 0x00, pc := 0x0102, flags := { noFlags with cy := true, ac := true, p := true, z := true } } [] [] = true := by decide -- R187

theorem test_V23_addM : ends (vector [0x86] [(0x2000, 0x01)]
    { Cpu.reset with h := 0x20, l := 0x00, a := 0x0F, pc := 0x0100 })
    7 { Cpu.reset with h := 0x20, l := 0x00, a := 0x10, pc := 0x0101, flags := { noFlags with ac := true } } [] [] = true := by decide -- R186

theorem test_V24_adcC : ends (vector [0x89] []
    { Cpu.reset with a := 0x01, c := 0x01, pc := 0x0100, flags := { noFlags with cy := true } })
    4 { Cpu.reset with a := 0x03, c := 0x01, pc := 0x0101, flags := { noFlags with p := true } } [] [] = true := by decide -- R188

theorem test_V25_aci00H : ends (vector [0xCE, 0x00] []
    { Cpu.reset with a := 0xFF, pc := 0x0100, flags := { noFlags with cy := true } })
    7 { Cpu.reset with a := 0x00, pc := 0x0102, flags := { noFlags with cy := true, ac := true, p := true, z := true } } [] [] = true := by decide -- R190

theorem test_V26_adcM : ends (vector [0x8E] [(0x2000, 0x01)]
    { Cpu.reset with h := 0x20, l := 0x00, a := 0xFE, pc := 0x0100, flags := { noFlags with cy := true } })
    7 { Cpu.reset with h := 0x20, l := 0x00, a := 0x00, pc := 0x0101, flags := { noFlags with cy := true, ac := true, p := true, z := true } } [] [] = true := by decide -- R189

theorem test_V28_subE : ends (vector [0x93] []
    { Cpu.reset with a := 0x00, e := 0x01, pc := 0x0100 })
    4 { Cpu.reset with a := 0xFF, e := 0x01, pc := 0x0101, flags := { noFlags with cy := true, p := true, s := true } } [] [] = true := by decide -- R191

theorem test_V30_sui10H : ends (vector [0xD6, 0x10] []
    { Cpu.reset with a := 0x10, pc := 0x0100 })
    7 { Cpu.reset with a := 0x00, pc := 0x0102, flags := { noFlags with ac := true, p := true, z := true } } [] [] = true := by decide -- R193

theorem test_V31_subM : ends (vector [0x96] [(0x2000, 0x01)]
    { Cpu.reset with h := 0x20, l := 0x00, a := 0x00, pc := 0x0100 })
    7 { Cpu.reset with h := 0x20, l := 0x00, a := 0xFF, pc := 0x0101, flags := { noFlags with cy := true, p := true, s := true } } [] [] = true := by decide -- R192

theorem test_V32_sbbB : ends (vector [0x98] []
    { Cpu.reset with a := 0x05, b := 0x05, pc := 0x0100, flags := { noFlags with cy := true } })
    4 { Cpu.reset with a := 0xFF, b := 0x05, pc := 0x0101, flags := { noFlags with cy := true, p := true, s := true } } [] [] = true := by decide -- R194

theorem test_V33_sbi01H : ends (vector [0xDE, 0x01] []
    { Cpu.reset with a := 0x10, pc := 0x0100, flags := { noFlags with cy := true } })
    7 { Cpu.reset with a := 0x0E, pc := 0x0102 } [] [] = true := by decide -- R196

theorem test_V34_sbbM : ends (vector [0x9E] [(0x2000, 0x00)]
    { Cpu.reset with h := 0x20, l := 0x00, a := 0x00, pc := 0x0100, flags := { noFlags with cy := true } })
    7 { Cpu.reset with h := 0x20, l := 0x00, a := 0xFF, pc := 0x0101, flags := { noFlags with cy := true, p := true, s := true } } [] [] = true := by decide -- R195

theorem test_V35_inrA : ends (vector [0x3C] []
    { Cpu.reset with a := 0xFF, pc := 0x0100, flags := { noFlags with cy := true } })
    5 { Cpu.reset with a := 0x00, pc := 0x0101, flags := { noFlags with cy := true, ac := true, p := true, z := true } } [] [] = true := by decide -- R197

theorem test_V37_inrM : ends (vector [0x34] [(0x2000, 0x7F)]
    { Cpu.reset with h := 0x20, l := 0x00, pc := 0x0100 })
    10 { Cpu.reset with h := 0x20, l := 0x00, pc := 0x0101, flags := { noFlags with ac := true, s := true } } [(0x2000, 0x80)] [] = true := by decide -- R198

theorem test_V40_dcrE : ends (vector [0x1D] []
    { Cpu.reset with e := 0x01, pc := 0x0100 })
    5 { Cpu.reset with e := 0x00, pc := 0x0101, flags := { noFlags with ac := true, p := true, z := true } } [] [] = true := by decide -- R199

theorem test_V41_dcrM : ends (vector [0x35] [(0x2000, 0x00)]
    { Cpu.reset with h := 0x20, l := 0x00, pc := 0x0100 })
    10 { Cpu.reset with h := 0x20, l := 0x00, pc := 0x0101, flags := { noFlags with p := true, s := true } } [(0x2000, 0xFF)] [] = true := by decide -- R200

theorem test_V42_inxH : ends (vector [0x23] []
    { Cpu.reset with h := 0xFF, l := 0xFF, pc := 0x0100, flags := { noFlags with z := true } })
    5 { Cpu.reset with h := 0x00, l := 0x00, pc := 0x0101, flags := { noFlags with z := true } } [] [] = true := by decide -- R201

theorem test_V43_inxSp : ends (vector [0x33] []
    { Cpu.reset with sp := 0xFFFF, pc := 0x0100 })
    5 { Cpu.reset with sp := 0x0000, pc := 0x0101 } [] [] = true := by decide -- R201

theorem test_V44_dcxB : ends (vector [0x0B] []
    { Cpu.reset with b := 0x00, c := 0x00, pc := 0x0100 })
    5 { Cpu.reset with b := 0xFF, c := 0xFF, pc := 0x0101 } [] [] = true := by decide -- R202

theorem test_V46_dadH : ends (vector [0x29] []
    { Cpu.reset with h := 0x84, l := 0x21, pc := 0x0100 })
    10 { Cpu.reset with h := 0x08, l := 0x42, pc := 0x0101, flags := { noFlags with cy := true } } [] [] = true := by decide -- R203

theorem test_V47_dadSp : ends (vector [0x39] []
    { Cpu.reset with h := 0x00, l := 0x01, sp := 0xFFFE, pc := 0x0100, flags := { noFlags with cy := true } })
    10 { Cpu.reset with h := 0xFF, l := 0xFF, sp := 0xFFFE, pc := 0x0101 } [] [] = true := by decide -- R203

theorem test_V48_daa : ends (vector [0x27] []
    { Cpu.reset with a := 0x9B, pc := 0x0100 })
    4 { Cpu.reset with a := 0x01, pc := 0x0101, flags := { noFlags with cy := true, ac := true } } [] [] = true := by decide -- R204

theorem test_V51_daa : ends (vector [0x27] []
    { Cpu.reset with a := 0x12, pc := 0x0100, flags := { noFlags with ac := true } })
    4 { Cpu.reset with a := 0x18, pc := 0x0101, flags := { noFlags with p := true } } [] [] = true := by decide -- R204

theorem test_V60_anaB : ends (vector [0xA0] []
    { Cpu.reset with a := 0xF0, b := 0x0F, pc := 0x0100, flags := { noFlags with cy := true, ac := true } })
    4 { Cpu.reset with a := 0x00, b := 0x0F, pc := 0x0101, flags := { noFlags with p := true, z := true } } [] [] = true := by decide -- R231

theorem test_V61_anaM : ends (vector [0xA6] [(0x2000, 0x81)]
    { Cpu.reset with h := 0x20, l := 0x00, a := 0xFF, pc := 0x0100 })
    7 { Cpu.reset with h := 0x20, l := 0x00, a := 0x81, pc := 0x0101, flags := { noFlags with p := true, s := true } } [] [] = true := by decide -- R232

theorem test_V62_ani0Fh : ends (vector [0xE6, 0x0F] []
    { Cpu.reset with a := 0x3C, pc := 0x0100 })
    7 { Cpu.reset with a := 0x0C, pc := 0x0102, flags := { noFlags with p := true } } [] [] = true := by decide -- R233

theorem test_V63_xraA : ends (vector [0xAF] []
    { Cpu.reset with a := 0x5A, pc := 0x0100, flags := { noFlags with cy := true } })
    4 { Cpu.reset with a := 0x00, pc := 0x0101, flags := { noFlags with p := true, z := true } } [] [] = true := by decide -- R234

theorem test_V64_xraM : ends (vector [0xAE] [(0x2000, 0x0F)]
    { Cpu.reset with h := 0x20, l := 0x00, a := 0xFF, pc := 0x0100 })
    7 { Cpu.reset with h := 0x20, l := 0x00, a := 0xF0, pc := 0x0101, flags := { noFlags with p := true, s := true } } [] [] = true := by decide -- R235

theorem test_V65_xri0Ffh : ends (vector [0xEE, 0xFF] []
    { Cpu.reset with a := 0x0F, pc := 0x0100 })
    7 { Cpu.reset with a := 0xF0, pc := 0x0102, flags := { noFlags with p := true, s := true } } [] [] = true := by decide -- R236

theorem test_V66_oraC : ends (vector [0xB1] []
    { Cpu.reset with a := 0x00, c := 0x80, pc := 0x0100 })
    4 { Cpu.reset with a := 0x80, c := 0x80, pc := 0x0101, flags := { noFlags with s := true } } [] [] = true := by decide -- R237

theorem test_V67_oraM : ends (vector [0xB6] [(0x2000, 0x00)]
    { Cpu.reset with h := 0x20, l := 0x00, a := 0x00, pc := 0x0100, flags := { noFlags with cy := true, ac := true } })
    7 { Cpu.reset with h := 0x20, l := 0x00, a := 0x00, pc := 0x0101, flags := { noFlags with p := true, z := true } } [] [] = true := by decide -- R238

theorem test_V68_ori01H : ends (vector [0xF6, 0x01] []
    { Cpu.reset with a := 0x00, pc := 0x0100 })
    7 { Cpu.reset with a := 0x01, pc := 0x0102 } [] [] = true := by decide -- R239

theorem test_V70_cmpC : ends (vector [0xB9] []
    { Cpu.reset with a := 0x10, c := 0x20, pc := 0x0100 })
    4 { Cpu.reset with a := 0x10, c := 0x20, pc := 0x0101, flags := { noFlags with cy := true, ac := true, p := true, s := true } } [] [] = true := by decide -- R240

theorem test_V71_cmpM : ends (vector [0xBE] [(0x2000, 0x01)]
    { Cpu.reset with h := 0x20, l := 0x00, a := 0x80, pc := 0x0100 })
    7 { Cpu.reset with h := 0x20, l := 0x00, a := 0x80, pc := 0x0101 } [] [] = true := by decide -- R241

theorem test_V73_cpi05H : ends (vector [0xFE, 0x05] []
    { Cpu.reset with a := 0x02, pc := 0x0100 })
    7 { Cpu.reset with a := 0x02, pc := 0x0102, flags := { noFlags with cy := true, s := true } } [] [] = true := by decide -- R242

theorem test_V75_rlc : ends (vector [0x07] []
    { Cpu.reset with a := 0x55, pc := 0x0100, flags := { noFlags with cy := true, z := true } })
    4 { Cpu.reset with a := 0xAA, pc := 0x0101, flags := { noFlags with z := true } } [] [] = true := by decide -- R243

theorem test_V76_rrc : ends (vector [0x0F] []
    { Cpu.reset with a := 0x01, pc := 0x0100 })
    4 { Cpu.reset with a := 0x80, pc := 0x0101, flags := { noFlags with cy := true } } [] [] = true := by decide -- R244

theorem test_V78_ral : ends (vector [0x17] []
    { Cpu.reset with a := 0x01, pc := 0x0100, flags := { noFlags with cy := true } })
    4 { Cpu.reset with a := 0x03, pc := 0x0101 } [] [] = true := by decide -- R245

theorem test_V79_rar : ends (vector [0x1F] []
    { Cpu.reset with a := 0x01, pc := 0x0100, flags := { noFlags with cy := true } })
    4 { Cpu.reset with a := 0x80, pc := 0x0101, flags := { noFlags with cy := true } } [] [] = true := by decide -- R246

theorem test_V80_cma : ends (vector [0x2F] []
    { Cpu.reset with a := 0x51, pc := 0x0100, flags := { noFlags with z := true } })
    4 { Cpu.reset with a := 0xAE, pc := 0x0101, flags := { noFlags with z := true } } [] [] = true := by decide -- R247

theorem test_V81_cmc : ends (vector [0x3F] []
    { Cpu.reset with pc := 0x0100, flags := { noFlags with cy := true } })
    4 { Cpu.reset with pc := 0x0101 } [] [] = true := by decide -- R248

theorem test_V82_stc : ends (vector [0x37] []
    { Cpu.reset with pc := 0x0100 })
    4 { Cpu.reset with pc := 0x0101, flags := { noFlags with cy := true } } [] [] = true := by decide -- R249

theorem test_V91_pushD : ends (vector [0xD5] []
    { Cpu.reset with d := 0xBE, e := 0xEF, sp := 0x0001, pc := 0x0100 })
    11 { Cpu.reset with d := 0xBE, e := 0xEF, sp := 0xFFFF, pc := 0x0101 } [(0x0000, 0xBE), (0xFFFF, 0xEF)] [] = true := by decide -- R273

theorem test_V92_pushH : ends (vector [0xE5] []
    { Cpu.reset with h := 0x56, l := 0x78, pc := 0x0100 })
    11 { Cpu.reset with h := 0x56, l := 0x78, pc := 0x0101, sp := 0xFFFE } [(0xFFFE, 0x78), (0xFFFF, 0x56)] [] = true := by decide -- R273

theorem test_V93_pushPsw : ends (vector [0xF5] []
    { Cpu.reset with a := 0x42, sp := 0x0100, pc := 0x0100, flags := { noFlags with cy := true, ac := true, p := true, s := true, z := true } })
    11 { Cpu.reset with a := 0x42, sp := 0x00FE, pc := 0x0101, flags := { noFlags with cy := true, ac := true, p := true, s := true, z := true } } [(0x00FE, 0xD7), (0x00FF, 0x42)] [] = true := by decide -- R274

theorem test_V95_popH : ends (vector [0xE1] [(0xFFFF, 0x34), (0x0000, 0x12)]
    { Cpu.reset with sp := 0xFFFF, pc := 0x0100 })
    10 { Cpu.reset with sp := 0x0001, pc := 0x0101, h := 0x12, l := 0x34 } [] [] = true := by decide -- R275

theorem test_V97_popPsw : ends (vector [0xF1] [(0x2000, 0xFF), (0x2001, 0x80)]
    { Cpu.reset with sp := 0x2000, pc := 0x0100 })
    10 { Cpu.reset with sp := 0x2002, pc := 0x0101, a := 0x80, flags := { noFlags with cy := true, ac := true, p := true, s := true, z := true } } [] [] = true := by decide -- R276

theorem test_V99_xthl : ends (vector [0xE3] [(0x00FE, 0x34), (0x00FF, 0x12)]
    { Cpu.reset with h := 0xAB, l := 0xCD, sp := 0x00FE, pc := 0x0100 })
    18 { Cpu.reset with h := 0x12, l := 0x34, sp := 0x00FE, pc := 0x0101 } [(0x00FE, 0xCD), (0x00FF, 0xAB)] [] = true := by decide -- R277

theorem test_V100_sphl : ends (vector [0xF9] []
    { Cpu.reset with h := 0x24, l := 0x00, pc := 0x0100 })
    5 { Cpu.reset with h := 0x24, l := 0x00, pc := 0x0101, sp := 0x2400 } [] [] = true := by decide -- R278

theorem test_V110_jmp2000H : ends (vector [0xC3, 0x00, 0x20] []
    { Cpu.reset with pc := 0x0100 })
    10 { Cpu.reset with pc := 0x2000 } [] [] = true := by decide -- R293

theorem test_V112_jnz2000H : ends (vector [0xC2, 0x00, 0x20] []
    { Cpu.reset with pc := 0x0100 })
    10 { Cpu.reset with pc := 0x2000 } [] [] = true := by decide -- R294

theorem test_V114_jz2000H : ends (vector [0xCA, 0x00, 0x20] []
    { Cpu.reset with pc := 0x0100, flags := { noFlags with z := true } })
    10 { Cpu.reset with pc := 0x2000, flags := { noFlags with z := true } } [] [] = true := by decide -- R295

theorem test_V115_jnc2000H : ends (vector [0xD2, 0x00, 0x20] []
    { Cpu.reset with pc := 0x0100, flags := { noFlags with cy := true } })
    10 { Cpu.reset with pc := 0x0103, flags := { noFlags with cy := true } } [] [] = true := by decide -- R296

theorem test_V116_jc2000H : ends (vector [0xDA, 0x00, 0x20] []
    { Cpu.reset with pc := 0x0100, flags := { noFlags with cy := true } })
    10 { Cpu.reset with pc := 0x2000, flags := { noFlags with cy := true } } [] [] = true := by decide -- R297

theorem test_V117_jpo2000H : ends (vector [0xE2, 0x00, 0x20] []
    { Cpu.reset with pc := 0x0100 })
    10 { Cpu.reset with pc := 0x2000 } [] [] = true := by decide -- R298

theorem test_V118_jpe2000H : ends (vector [0xEA, 0x00, 0x20] []
    { Cpu.reset with pc := 0x0100, flags := { noFlags with p := true } })
    10 { Cpu.reset with pc := 0x2000, flags := { noFlags with p := true } } [] [] = true := by decide -- R299

theorem test_V119_jp2000H : ends (vector [0xF2, 0x00, 0x20] []
    { Cpu.reset with pc := 0x0100, flags := { noFlags with s := true } })
    10 { Cpu.reset with pc := 0x0103, flags := { noFlags with s := true } } [] [] = true := by decide -- R300

theorem test_V120_jm2000H : ends (vector [0xFA, 0x00, 0x20] []
    { Cpu.reset with pc := 0x0100 })
    10 { Cpu.reset with pc := 0x0103 } [] [] = true := by decide -- R301

theorem test_V122_call2000H : ends (vector [0xCD, 0x00, 0x20] []
    { Cpu.reset with pc := 0x0100 })
    17 { Cpu.reset with pc := 0x2000, sp := 0xFFFE } [(0xFFFE, 0x03), (0xFFFF, 0x01)] [] = true := by decide -- R302

theorem test_V123_cnz2000H : ends (vector [0xC4, 0x00, 0x20] []
    { Cpu.reset with sp := 0x0100, pc := 0x0100 })
    17 { Cpu.reset with sp := 0x00FE, pc := 0x2000 } [(0x00FE, 0x03), (0x00FF, 0x01)] [] = true := by decide -- R303

theorem test_V124_cz2000H : ends (vector [0xCC, 0x00, 0x20] []
    { Cpu.reset with sp := 0x0100, pc := 0x0100 })
    11 { Cpu.reset with sp := 0x0100, pc := 0x0103 } [] [] = true := by decide -- R304

theorem test_V125_cnc2000H : ends (vector [0xD4, 0x00, 0x20] []
    { Cpu.reset with sp := 0x0100, pc := 0x0100 })
    17 { Cpu.reset with sp := 0x00FE, pc := 0x2000 } [(0x00FE, 0x03), (0x00FF, 0x01)] [] = true := by decide -- R305

theorem test_V126_cc2000H : ends (vector [0xDC, 0x00, 0x20] []
    { Cpu.reset with sp := 0x0100, pc := 0x0100, flags := { noFlags with cy := true } })
    17 { Cpu.reset with sp := 0x00FE, pc := 0x2000, flags := { noFlags with cy := true } } [(0x00FE, 0x03), (0x00FF, 0x01)] [] = true := by decide -- R306

theorem test_V127_cpo2000H : ends (vector [0xE4, 0x00, 0x20] []
    { Cpu.reset with sp := 0x0100, pc := 0x0100 })
    17 { Cpu.reset with sp := 0x00FE, pc := 0x2000 } [(0x00FE, 0x03), (0x00FF, 0x01)] [] = true := by decide -- R307

theorem test_V128_cpe2000H : ends (vector [0xEC, 0x00, 0x20] []
    { Cpu.reset with sp := 0x0100, pc := 0x0100 })
    11 { Cpu.reset with sp := 0x0100, pc := 0x0103 } [] [] = true := by decide -- R308

theorem test_V129_cp2000H : ends (vector [0xF4, 0x00, 0x20] []
    { Cpu.reset with sp := 0x0100, pc := 0x0100 })
    17 { Cpu.reset with sp := 0x00FE, pc := 0x2000 } [(0x00FE, 0x03), (0x00FF, 0x01)] [] = true := by decide -- R309

theorem test_V130_cm2000H : ends (vector [0xFC, 0x00, 0x20] []
    { Cpu.reset with sp := 0x0100, pc := 0x0100 })
    11 { Cpu.reset with sp := 0x0100, pc := 0x0103 } [] [] = true := by decide -- R310

theorem test_V141_ret : ends (vector [0xC9] [(0xFFFF, 0x00), (0x0000, 0x20)]
    { Cpu.reset with sp := 0xFFFF, pc := 0x0100 })
    10 { Cpu.reset with sp := 0x0001, pc := 0x2000 } [] [] = true := by decide -- R311

theorem test_V132_rnz : ends (vector [0xC0] [(0x00FE, 0x34), (0x00FF, 0x12)]
    { Cpu.reset with sp := 0x00FE, pc := 0x0100 })
    11 { Cpu.reset with sp := 0x0100, pc := 0x1234 } [] [] = true := by decide -- R312

theorem test_V133_rz : ends (vector [0xC8] [(0x00FE, 0x34), (0x00FF, 0x12)]
    { Cpu.reset with sp := 0x00FE, pc := 0x0100 })
    5 { Cpu.reset with sp := 0x00FE, pc := 0x0101 } [] [] = true := by decide -- R313

theorem test_V136_rnc : ends (vector [0xD0] [(0x00FE, 0x34), (0x00FF, 0x12)]
    { Cpu.reset with sp := 0x00FE, pc := 0x0100, flags := { noFlags with cy := true } })
    5 { Cpu.reset with sp := 0x00FE, pc := 0x0101, flags := { noFlags with cy := true } } [] [] = true := by decide -- R314

theorem test_V135_rc : ends (vector [0xD8] [(0x00FE, 0x34), (0x00FF, 0x12)]
    { Cpu.reset with sp := 0x00FE, pc := 0x0100 })
    5 { Cpu.reset with sp := 0x00FE, pc := 0x0101 } [] [] = true := by decide -- R315

theorem test_V137_rpo : ends (vector [0xE0] [(0x00FE, 0x34), (0x00FF, 0x12)]
    { Cpu.reset with sp := 0x00FE, pc := 0x0100 })
    11 { Cpu.reset with sp := 0x0100, pc := 0x1234 } [] [] = true := by decide -- R316

theorem test_V138_rpe : ends (vector [0xE8] [(0x00FE, 0x34), (0x00FF, 0x12)]
    { Cpu.reset with sp := 0x00FE, pc := 0x0100 })
    5 { Cpu.reset with sp := 0x00FE, pc := 0x0101 } [] [] = true := by decide -- R317

theorem test_V139_rp : ends (vector [0xF0] [(0x00FE, 0x34), (0x00FF, 0x12)]
    { Cpu.reset with sp := 0x00FE, pc := 0x0100 })
    11 { Cpu.reset with sp := 0x0100, pc := 0x1234 } [] [] = true := by decide -- R318

theorem test_V140_rm : ends (vector [0xF8] [(0x00FE, 0x34), (0x00FF, 0x12)]
    { Cpu.reset with sp := 0x00FE, pc := 0x0100 })
    5 { Cpu.reset with sp := 0x00FE, pc := 0x0101 } [] [] = true := by decide -- R319

theorem test_V142_rst7 : ends (vector [0xFF] []
    { Cpu.reset with sp := 0x0100, pc := 0x0100 })
    11 { Cpu.reset with sp := 0x00FE, pc := 0x0038 } [(0x00FE, 0x01), (0x00FF, 0x01)] [] = true := by decide -- R320

theorem test_V143_rst0 : ends (vector [0xC7] []
    { Cpu.reset with pc := 0x1234, sp := 0x0100 })
    11 { Cpu.reset with pc := 0x0000, sp := 0x00FE } [(0x00FE, 0x35), (0x00FF, 0x12)] [] = true := by decide -- R320

theorem test_V145_pchl : ends (vector [0xE9] []
    { Cpu.reset with h := 0x43, l := 0x21, pc := 0x0100 })
    5 { Cpu.reset with h := 0x43, l := 0x21, pc := 0x4321 } [] [] = true := by decide -- R321

theorem test_V152_out02H : ends (vector [0xD3, 0x02] []
    { Cpu.reset with a := 0x41, pc := 0x0100 })
    10 { Cpu.reset with a := 0x41, pc := 0x0102 } [] [.output 0x02 0x41] = true := by decide -- R351

theorem test_V160_ei : ends (vector [0xFB] []
    { Cpu.reset with pc := 0x0100 })
    4 { Cpu.reset with pc := 0x0101, ie := true } [] [] = true := by decide -- R360

theorem test_V161_di : ends (vector [0xF3] []
    { Cpu.reset with ie := true, pc := 0x0100 })
    4 { Cpu.reset with ie := false, pc := 0x0101 } [] [] = true := by decide -- R361

theorem test_V162_hlt : ends (vector [0x76] []
    { Cpu.reset with pc := 0x0100 })
    7 { Cpu.reset with pc := 0x0101, active := false } [] [] = true := by decide -- R362

theorem test_V163_hlt : ends (vector [0x76] []
    { Cpu.reset with ie := true, pc := 0x0100 })
    7 { Cpu.reset with ie := true, pc := 0x0101 } [] [] = true := by decide -- R362

theorem test_V165_nop : ends (vector [0x00] []
    { Cpu.reset with pc := 0xFFFF })
    4 { Cpu.reset with pc := 0x0000 } [] [] = true := by decide -- R363

/-- V150: the answer of the port is the free value; A receives it and one event is recorded. -/
theorem test_V150_in : step (vector [0xDB, 0x01] [] { Cpu.reset with pc := 0x0100 }) =
    .next { vector [0xDB, 0x01] [] { Cpu.reset with pc := 0x0102, a := Config.input 0x01 [] } with
      mem := [(0x0100, 0xDB), (0x0101, 0x01)]
      history := [.input 0x01 (Config.input 0x01 [])], result := .cycles 10 } := by rfl

/-- V166: a halted core. -/
theorem test_V166_halted : answers (vector [0x76] [] { Cpu.reset with pc := 0x0100, active := false }) .execute .halted
    { Cpu.reset with pc := 0x0100, active := false } [] = true := by decide

/-- V170 to V181: the twelve undocumented values. -/
theorem test_V170_to_V181_undocumented :
    (([0x08, 0x10, 0x18, 0x20, 0x28, 0x30, 0x38, 0xCB, 0xD9, 0xDD, 0xED, 0xFD] : List Byte).all fun op =>
      faultsWith (step (vector [op] [] { Cpu.reset with pc := 0x0100 })) (.illegalOpcode 0x0100 op)) = true := by
  decide

/-! ## Host calls: vectors I -/

theorem test_I2_masked : answers (vector [] [] { Cpu.reset with pc := 0x0100 }) (.interrupt 0x00) .interruptMasked
    { Cpu.reset with pc := 0x0100 } [] = true := by decide

theorem test_I3_accepted : answers (vector [] [] { Cpu.reset with pc := 0x1234, sp := 0x0100, ie := true }) (.interrupt 0xD7)
    .interruptAccepted { Cpu.reset with pc := 0x0010, sp := 0x00FE } [(0x00FE, 0x34), (0x00FF, 0x12)] = true := by
  decide

theorem test_I4_stack_wrap : answers (vector [] [] { Cpu.reset with pc := 0x0200, ie := true }) (.interrupt 0xC7)
    .interruptAccepted { Cpu.reset with pc := 0x0000, sp := 0xFFFE } [(0xFFFE, 0x00), (0xFFFF, 0x02)] = true := by
  decide

theorem test_I5_refused : refusedWith (interrupt 0x00 { State.reset with cpu := { Cpu.reset with ie := true } })
    (.nonRestartCode 0x00) = true := by decide

theorem test_I6_reset3 : answers (vector [] [] { Cpu.reset with pc := 0x1234, sp := 0x0100, ie := true }) (.reset 3)
    .interruptAccepted { Cpu.reset with pc := 0x0018, sp := 0x00FE } [(0x00FE, 0x34), (0x00FF, 0x12)] = true := by
  decide

theorem test_I8_reset8 : answers State.reset (.reset 8) .invalidArgument Cpu.reset [] = true := by decide

theorem test_I9_reset0_masked : answers State.reset (.reset 0) .interruptMasked Cpu.reset [] = true := by decide

/-- R45: inspection returns the CPU state. -/
theorem test_inspect : answers State.reset .inspect (.inspected Cpu.reset) Cpu.reset [] = true := by decide

/-! ## Trap replacements: vectors T -/

theorem test_T1_ret : trapEnds (trapped [0xC9] [(0x00FE, 0x03), (0x00FF, 0x01)] { Cpu.reset with pc := 0x0100, sp := 0x00FE })
    10 { Cpu.reset with pc := 0x0103, sp := 0x0100 } [] = true := by decide

theorem test_T3_call_pushes_ipc : trapEnds (trapped [0xCD, 0x00, 0x20] [] { Cpu.reset with pc := 0x0100, sp := 0x0100 })
    17 { Cpu.reset with pc := 0x2000, sp := 0x00FE } [(0x00FE, 0x00), (0x00FF, 0x01)] = true := by decide

theorem test_T5_hlt : trapEnds (trapped [0x76] [] { Cpu.reset with pc := 0x0100 })
    7 { Cpu.reset with pc := 0x0100, active := false } [] = true := by decide

theorem test_T6_undocumented : faultsWith (step (trapped [0x08] [] { Cpu.reset with pc := 0x0100 }))
    (.illegalOpcode 0x0100 0x08) = true := by decide

theorem test_T11_unused_bytes : trapEnds (trapped [0x3E, 0x42, 0xFF, 0xFF] [] { Cpu.reset with pc := 0x0100 })
    7 { Cpu.reset with pc := 0x0100, a := 0x42 } [] = true := by decide

theorem test_T12_too_short : refusedWith (step (trapped [0xC3] [] { Cpu.reset with pc := 0x0100 }))
    (.replacementTooShort 0xC3) = true := by decide

/-- "The bytes the hook receives", with the ordinary fetch after no replacement. -/
theorem test_hook_bytes :
    (match hookBytes (vector [0x11, 0x22, 0x33, 0x44] [] { Cpu.reset with pc := 0xFFFE }) with
      | .next bytes => decide (bytes = [0x11, 0x22, 0x33, 0x44])
      | _ => false) = true ∧
    trapEnds { vector [0x11, 0x22, 0x33, 0x44] [] { Cpu.reset with pc := 0xFFFE } with hookAnswers := some [[]] }
      10 { Cpu.reset with pc := 0x0001, d := 0x33, e := 0x22 } [] = true := by decide

/-! ## Construction and bus faults: vectors K -/

theorem test_K2_image :
    (match construct [0xC3, 0x00, 0x01] with
      | some s => ends s 10 { Cpu.reset with pc := 0x0100 } [] []
      | none => false) = true := by decide

/-- R401 "optional bus": the first step runs what the bus holds (MVI A, 0x42), and ends in the bus fault where the bus does
not service the fetch; without a bus it runs the built-in board's 0x00, a NOP. -/
theorem test_install_on_a_bus :
    ends (install (some { cells := [(0x0001, 0x42), (0x0000, 0x3E)], unserviced := [], hookAnswers := none }))
      7 { Cpu.reset with pc := 0x0002, a := 0x42 } [] [] = true ∧
    faultsWith (step (install (some { cells := [], unserviced := [.read 0x0000], hookAnswers := none })))
      (.busFault (.read 0x0000)) = true ∧
    ends (install none) 4 { Cpu.reset with pc := 0x0001 } [] [] = true := by decide

/-- The hook of a supplied bus: a HLT replacement in place of the byte at 0x0000 (R424). -/
theorem test_install_with_a_hook :
    trapEnds (install (some { cells := [], unserviced := [], hookAnswers := some [[0x76]] }))
      7 { Cpu.reset with active := false } [] = true := by decide

theorem test_K4_oversized : construct (List.replicate 65537 0x00) = none :=
  if_neg (by rw [test_wf_image_too_large_refused.1]; decide)

theorem test_K5_write_fault :
    faultsWith (step { vector [0x77] [] { Cpu.reset with pc := 0x0100, h := 0x20, a := 0x77 } with
      unserviced := [.write 0x2000 0x77] }) (.busFault (.write 0x2000 0x77)) = true := by decide

theorem test_K6_fetch_fault :
    faultsWith (step { vector [0x77] [] { Cpu.reset with pc := 0x0100 } with unserviced := [.read 0x0100] })
      (.busFault (.read 0x0100)) = true := by decide

/-- An UNLISTED entry is never stored: writing 0x00 over a byte restores the shorter memory (log 7). -/
theorem test_memory_canonical : ((Memory.write [] 5 0x11).write 5 0x00) = [] ∧
    ((Memory.write [] 7 0x22).write 5 0x11) = [(5, 0x11), (7, 0x22)] := by decide

/-! ## Witnesses: for each statement with hypotheses, values that meet them -/

theorem witness_EncodeInvertsDecode : decode [0x01, 0x34, 0x12, 0x00] = .ok (.lxiB 0x1234, [0x00]) := rfl

/-- Each format at its boundary: a byte short, and exactly long enough. -/
theorem witness_DecodeFailsOnlyOnMissingBytes :
    decode [] = .error .noBytes ∧ decode [0x3E] = .error (.truncated 0x3E) ∧ decode [0x01, 0x34] = .error (.truncated 0x01) ∧
    decode [0x00] = .ok (.nop, []) ∧ decode [0x3E, 0x42] = .ok (.mviA 0x42, []) ∧
    decode [0x01, 0x34, 0x12] = .ok (.lxiB 0x1234, []) := ⟨rfl, rfl, rfl, rfl, rfl, rfl⟩

theorem witness_TwelveOpcodesAreUndocumented :
    (decodeOpcode 0xFD 0x00 0x00).documented = false ∧ (decodeOpcode 0xFE 0x00 0x00).documented = true := by decide

/-- With and without a call in the queue. -/
theorem witness_NextIsExecute : NextIsExecute State.reset State.reset ∧
    NextIsExecute { State.reset with calls := [.execute, .reset 0] } { State.reset with calls := [.reset 0] } :=
  ⟨.inl ⟨rfl, rfl⟩, .inr ⟨[.reset 0], rfl, rfl⟩⟩

theorem serviced (x : Access) : State.reset.admits x = true := by simp [State.admits, State.reset]

theorem witness_StepRunsTheDecodedInstruction :
    let s := vector [0xC3, 0x00, 0x20] [] Cpu.reset
    NextIsExecute s s ∧ s.cpu.active = true ∧ s.hookAnswers = none ∧ decode (bytesAtPc s 3) = .ok (.jmp 0x2000, []) ∧
    (Instr.jmp 0x2000).documented = true ∧ Fetchable s (encode (.jmp 0x2000)).length :=
  ⟨.inl ⟨rfl, rfl⟩, rfl, rfl, rfl, rfl, fun _ _ => serviced _⟩

/-- A hook that answers nothing, one that answers a whole RET, and one that answers two bytes of a JMP. -/
theorem witness_HookAnswersReplaceTheFetch :
    State.reset.cpu.active = true ∧ Fetchable State.reset 4 ∧
    (fun _ _ => [] : Cpu → List Byte → List Byte) State.reset.cpu (bytesAtPc State.reset 4) = [] ∧
    decode [0xC9] = .ok (.ret, []) ∧ ([0x00, 0x01, 0x02] : List Byte).length ≤ 3 ∧
    ([0x00] : List Byte).length + 1 < formatLength 0xC3 :=
  ⟨rfl, fun _ _ => serviced _, rfl, rfl, by decide, by decide⟩

theorem witness_HookAnswersStandForAnyHook :
    let s := { State.reset with hookAnswers := some [[0xC9], []] }
    NextIsExecute s s ∧ s.cpu.active = true ∧ s.hookAnswers = some [[0xC9], []] ∧ Fetchable s 4 :=
  ⟨.inl ⟨rfl, rfl⟩, rfl, rfl, fun _ _ => serviced _⟩

theorem witness_UndocumentedByteFaultsTheStep :
    let s := vector [0x08] [] Cpu.reset
    let u := { State.reset with hookAnswers := some [[0xFD, 0x00, 0x00, 0x00]] }
    (0x08 ∈ undocumentedOpcodes ∧ NextIsExecute s s ∧ s.cpu.active = true ∧ s.hookAnswers = none ∧
      s.byteAt s.cpu.pc = 0x08 ∧ s.admits (.read s.cpu.pc) = true) ∧
    (0xFD ∈ undocumentedOpcodes ∧ NextIsExecute u u ∧ u.cpu.active = true ∧ Fetchable u 4) :=
  ⟨⟨by decide, .inl ⟨rfl, rfl⟩, rfl, rfl, rfl, rfl⟩, by decide, .inl ⟨rfl, rfl⟩, rfl, fun _ _ => serviced _⟩

theorem witness_UndocumentedRowsStop : Instr.undocumented08.documented = false ∧ Instr.undocumentedFD.documented = false :=
  ⟨rfl, rfl⟩

theorem witness_HaltedExecuteOnlyReports :
    let s := { State.reset with cpu := { Cpu.reset with active := false } }
    NextIsExecute s s ∧ s.cpu.active = false := ⟨.inl ⟨rfl, rfl⟩, rfl⟩

/-- The opcode byte, and the third byte of a three-byte instruction, not serviced. -/
theorem witness_UnservicedFetchFaults :
    let s := denies [.read 0x0000]
    let u := { vector [0xC3] [] Cpu.reset with unserviced := [.read 0x0002] }
    (NextIsExecute s s ∧ s.cpu.active = true ∧ s.hookAnswers = none ∧ Fetchable s 0 ∧
      0 < formatLength (s.byteAt s.cpu.pc) ∧ s.admits (.read (s.cpu.pc + BitVec.ofNat 16 0)) = false) ∧
    (NextIsExecute u u ∧ u.cpu.active = true ∧ u.hookAnswers = none ∧ Fetchable u 2 ∧
      2 < formatLength (u.byteAt u.cpu.pc) ∧ u.admits (.read (u.cpu.pc + BitVec.ofNat 16 2)) = false) :=
  ⟨⟨.inl ⟨rfl, rfl⟩, rfl, rfl, fun _ h => absurd h (Nat.not_lt_zero _), by decide, by decide⟩,
    .inl ⟨rfl, rfl⟩, rfl, rfl, (by unfold Fetchable; decide), by decide, by decide⟩

theorem witness_HostCallsAreServedInOrder :
    ({ State.reset with calls := [.interrupt 0xFF] }).calls = [HostCall.interrupt 0xFF] ∧
    ({ State.reset with calls := [.reset 8] }).calls = [HostCall.reset 8] ∧
    ({ State.reset with calls := [.inspect, .execute] }).calls = [HostCall.inspect, .execute] ∧
    ({ State.reset with calls := [.afterBusDestroyed] }).calls = [HostCall.afterBusDestroyed] ∧
    ({ State.reset with calls := [.concurrent] }).calls = [HostCall.concurrent] := ⟨rfl, rfl, rfl, rfl, rfl⟩

/-- A core with interrupts enabled. -/
def enabled : State := { State.reset with cpu := { Cpu.reset with ie := true, pc := 0x0123 } }

/-- The push of an accepted interrupt at a byte the board does not service (log 14: the model's choice). -/
theorem test_interrupt_push_not_serviced :
    faultsWith (interrupt 0xFF { enabled with unserviced := [.write (enabled.cpu.sp - 2) (lowByte enabled.cpu.pc)] })
      (.busFault (.write (enabled.cpu.sp - 2) (lowByte enabled.cpu.pc))) = true := by decide

theorem witness_AcceptedInterruptEntersTheVector :
    0 < 8 ∧ 7 < 8 ∧ enabled.cpu.ie = true ∧ WritableWord enabled (enabled.cpu.sp - 2) enabled.cpu.pc :=
  ⟨by decide, by decide, rfl, rfl, rfl⟩

theorem witness_InterruptsAreMaskedByIeThenByCode : State.reset.cpu.ie = false ∧ enabled.cpu.ie = true := ⟨rfl, rfl⟩

theorem witness_ResetDelegatesToInterrupt : 8 ≤ 8 ∧ 7 < 8 := by decide

theorem witness_InterruptThenReturnResumes :
    ∃ t, enabled.cpu.ie = true ∧ interrupt 0xFF enabled = .next t ∧ ReadableWord t t.cpu.sp :=
  ⟨_, rfl, rfl, rfl, rfl⟩

theorem witness_ConstructionPlacesTheImage :
    65536 < (List.replicate 65537 (0x00 : Byte)).length ∧ (List.replicate 65536 (0x00 : Byte)).length ≤ 65536 := by
  simp only [List.length_replicate]; decide

theorem witness_EveryStepKeepsTheInvariant :
    ∃ t, Inv (vector [0x77] [] { Cpu.reset with a := 0x01, h := 0x20 }) ∧
      step (vector [0x77] [] { Cpu.reset with a := 0x01, h := 0x20 }) = .next t :=
  ⟨_, ⟨rfl, fun h => by cases h⟩, rfl⟩

/-- A halted core reached by HLT with IE = 0, with calls to come. -/
theorem witness_HaltIsPermanent :
    ∃ t, step { vector [0x76] [] Cpu.reset with calls := [.execute, .interrupt 0xFF, .reset 0, .execute] } = .next t ∧
      HaltedForGood t ∧ OnlyOrderlyCalls t :=
  ⟨_, rfl, ⟨rfl, rfl⟩, by unfold OnlyOrderlyCalls; decide⟩

theorem witness_MemoryAccesses :
    State.reset.admits (.write 0xFFFF 0x5A) = true ∧ State.reset.admits (.read 0xFFFF) = true ∧
    WritableWord State.reset 0xFFFF 0x1234 ∧ ReadableWord State.reset 0xFFFF ∧ State.reset.mem.wf = true :=
  ⟨rfl, rfl, ⟨rfl, rfl⟩, ⟨rfl, rfl⟩, rfl⟩

theorem witness_CanonicalMemoriesAreEqualWhenTheyReadEqual :
    Memory.wf [(0x0000, 0x11), (0xFFFF, 0x22)] = true ∧ Memory.wf [(0x0000, 0x00)] = false := by decide

theorem witness_PopInvertsPush :
    WritableWord State.reset (State.reset.cpu.sp - 2) 0x1234 ∧ ReadableWord State.reset (State.reset.cpu.sp - 2) :=
  ⟨⟨rfl, rfl⟩, rfl, rfl⟩

/-- A read of M or of an address, serviced and not; the same for a write. -/
theorem witness_byte_accesses :
    State.reset.admits (.read State.reset.hl) = true ∧ (denies [.read 0x0000]).admits (.read (denies [.read 0x0000]).hl) = false ∧
    State.reset.admits (.write State.reset.hl 0x99) = true ∧
    (denies [.write 0x0000 0x99]).admits (.write (denies [.write 0x0000 0x99]).hl 0x99) = false :=
  ⟨rfl, rfl, rfl, rfl⟩

theorem witness_MoveBetweenRegisterAndMemory :
    State.reset.admits (.read State.reset.hl) = true ∧ (denies [.read 0x0000]).admits (.read 0x0000) = false ∧
    State.reset.admits (.write State.reset.hl (State.reset.reg .b)) = true ∧
    (denies [.write 0x0000 0x00]).admits (.write 0x0000 ((denies [.write 0x0000 0x00]).reg .b)) = false :=
  ⟨rfl, rfl, rfl, rfl⟩

theorem witness_ImmediateLoads :
    State.reset.admits (.write State.reset.hl 0xFF) = true ∧ (denies [.write 0x0000 0xFF]).admits (.write 0x0000 0xFF) = false :=
  ⟨rfl, rfl⟩

theorem witness_AccumulatorLoads :
    State.reset.admits (.read 0xFFFF) = true ∧ (denies [.read 0xFFFF]).admits (.read 0xFFFF) = false ∧
    State.reset.admits (.read (State.reset.pair .de)) = true ∧
    (denies [.read 0x0000]).admits (.read ((denies [.read 0x0000]).pair .bc)) = false := ⟨rfl, rfl, rfl, rfl⟩

theorem witness_AccumulatorStores :
    State.reset.admits (.write 0xFFFF (State.reset.reg .a)) = true ∧
    (denies [.write 0xFFFF 0x00]).admits (.write 0xFFFF ((denies [.write 0xFFFF 0x00]).reg .a)) = false ∧
    State.reset.admits (.write (State.reset.pair .bc) (State.reset.reg .a)) = true ∧
    (denies [.write 0x0000 0x00]).admits (.write ((denies [.write 0x0000 0x00]).pair .de) 0x00) = false :=
  ⟨rfl, rfl, rfl, rfl⟩

/-- A word read serviced in full, its first byte not, only its second byte not: at 0xFFFF, where it wraps. -/
theorem witness_word_reads :
    ReadableWord State.reset 0xFFFF ∧ (denies [.read 0xFFFF]).admits (.read 0xFFFF) = false ∧
    ((denies [.read 0x0000]).admits (.read 0xFFFF) = true ∧ (denies [.read 0x0000]).admits (.read (0xFFFF + 1)) = false) :=
  ⟨⟨rfl, rfl⟩, rfl, rfl, rfl⟩

/-- The same for a word write. -/
theorem witness_word_writes :
    WritableWord State.reset 0xFFFF 0x1234 ∧ (denies [.write 0xFFFF 0x34]).admits (.write 0xFFFF 0x34) = false ∧
    ((denies [.write 0x0000 0x12]).admits (.write 0xFFFF 0x34) = true ∧
      (denies [.write 0x0000 0x12]).admits (.write (0xFFFF + 1) 0x12) = false) := ⟨⟨rfl, rfl⟩, rfl, rfl, rfl⟩

theorem witness_HlDirectLoadAndStore :
    ReadableWord State.reset 0xFFFF ∧ WritableWord State.reset 0xFFFF State.reset.hl := ⟨⟨rfl, rfl⟩, rfl, rfl⟩

/-- M readable and not, for the additions, subtractions, compares and logic. -/
theorem witness_AccumulatorForms :
    State.reset.admits (.read State.reset.hl) = true ∧ (denies [.read 0x0000]).admits (.read (denies [.read 0x0000]).hl) = false :=
  ⟨rfl, rfl⟩

/-- 0xFF is what DCR M writes over 0x00, and 0x01 what INR M writes. -/
theorem witness_MemoryCounts :
    State.reset.admits (.read State.reset.hl) = true ∧ (denies [.read 0x0000]).admits (.read (denies [.read 0x0000]).hl) = false ∧
    (0x01 : Byte).toNat = ((State.reset.byteAt State.reset.hl).toNat + 1) % 256 ∧
    (0xFF : Byte).toNat = ((State.reset.byteAt State.reset.hl).toNat + 255) % 256 ∧
    State.reset.admits (.write State.reset.hl 0x01) = true ∧ State.reset.admits (.write State.reset.hl 0xFF) = true ∧
    (denies [.write 0x0000 0x01, .write 0x0000 0xFF]).admits (.write 0x0000 0x01) = false ∧
    (denies [.write 0x0000 0x01, .write 0x0000 0xFF]).admits (.write 0x0000 0xFF) = false := by decide

/-- 99 + 99 with and without a carry, the largest digits. -/
theorem witness_DecimalAdditionIsExact :
    IsBcd ({ State.reset with cpu := { Cpu.reset with a := 0x99 } }.reg .a) ∧ IsBcd 0x99 ∧ ¬ IsBcd 0x9A ∧
    (∃ t u, exec (.adi 0x99) { State.reset with cpu := { Cpu.reset with a := 0x99 } } = .next t ∧ exec .daa t = .next u) ∧
    (∃ t u, exec (.aci 0x99) { State.reset with cpu := { Cpu.reset with a := 0x99 } } = .next t ∧ exec .daa t = .next u) :=
  ⟨by unfold IsBcd; decide, by unfold IsBcd; decide, by unfold IsBcd; decide, ⟨_, _, rfl, rfl⟩, ⟨_, _, rfl, rfl⟩⟩

theorem witness_Pushes :
    WritableWord State.reset (State.reset.cpu.sp - 2) (State.reset.pair .bc) ∧
    WritableWord State.reset (State.reset.cpu.sp - 2) (BitVec.ofNat 16 (pswValue State.reset)) := ⟨⟨rfl, rfl⟩, rfl, rfl⟩

theorem witness_Pops : ReadableWord State.reset State.reset.cpu.sp := ⟨rfl, rfl⟩

theorem witness_ExchangeStackTop :
    ReadableWord State.reset State.reset.cpu.sp ∧ WritableWord State.reset State.reset.cpu.sp State.reset.hl :=
  ⟨⟨rfl, rfl⟩, rfl, rfl⟩

theorem witness_PushThenPopRestores :
    (∃ t u, exec (.push .de) State.reset = .next t ∧ exec (.pop .de) t = .next u) ∧
    (∃ t u, exec .pushPsw State.reset = .next t ∧ exec .popPsw t = .next u) := ⟨⟨_, _, rfl, rfl⟩, _, _, rfl, rfl⟩

/-- For each of the eight conditions, flags under which it holds and flags under which it does not. -/
theorem witness_conditions : ∀ code : Cond, ∃ f g : Flags, CondHolds code f ∧ ¬ CondHolds code g := by
  intro code
  cases code
  case nz => exact ⟨noFlags, { noFlags with z := true }, rfl, fun h => by cases h⟩
  case z => exact ⟨{ noFlags with z := true }, noFlags, rfl, fun h => by cases h⟩
  case nc => exact ⟨noFlags, { noFlags with cy := true }, rfl, fun h => by cases h⟩
  case c => exact ⟨{ noFlags with cy := true }, noFlags, rfl, fun h => by cases h⟩
  case po => exact ⟨noFlags, { noFlags with p := true }, rfl, fun h => by cases h⟩
  case pe => exact ⟨{ noFlags with p := true }, noFlags, rfl, fun h => by cases h⟩
  case p => exact ⟨noFlags, { noFlags with s := true }, rfl, fun h => by cases h⟩
  case m => exact ⟨{ noFlags with s := true }, noFlags, rfl, fun h => by cases h⟩

theorem witness_Jumps : CondHolds .nz State.reset.cpu.flags ∧ ¬ CondHolds .m State.reset.cpu.flags :=
  ⟨rfl, fun h => by cases h⟩

theorem witness_Calls :
    CondHolds .po State.reset.cpu.flags ∧ ¬ CondHolds .c State.reset.cpu.flags ∧
    WritableWord State.reset (State.reset.cpu.sp - 2) State.reset.cpu.pc := ⟨rfl, (fun h => by cases h), rfl, rfl⟩

theorem witness_Returns :
    CondHolds .p State.reset.cpu.flags ∧ ¬ CondHolds .pe State.reset.cpu.flags ∧
    ReadableWord State.reset State.reset.cpu.sp := ⟨rfl, (fun h => by cases h), rfl, rfl⟩

theorem witness_Restarts : WritableWord State.reset (State.reset.cpu.sp - 2) State.reset.cpu.pc := ⟨rfl, rfl⟩

theorem witness_PortTransactions :
    State.reset.admits (.input 0xFF) = true ∧ (denies [.input 0xFF]).admits (.input 0xFF) = false ∧
    State.reset.admits (.output 0xFF (State.reset.reg .a)) = true ∧
    (denies [.output 0xFF 0x00]).admits (.output 0xFF ((denies [.output 0xFF 0x00]).reg .a)) = false := ⟨rfl, rfl, rfl, rfl⟩

theorem witness_ControlInstructions : State.reset.cpu.ie = false ∧ enabled.cpu.ie = true := ⟨rfl, rfl⟩

/-- An instruction that completes, of the shortest and of the longest count. -/
theorem witness_CycleCountsFollowTheTable :
    (∃ t, exec .nop State.reset = .next t) ∧ (∃ t, exec .xthl State.reset = .next t) := ⟨⟨_, rfl⟩, _, rfl⟩

theorem witness_OnlyUnservicedAccessesStop : Instr.xthl.documented = true ∧ AllServiced State.reset := ⟨rfl, rfl⟩

/-- One opcode of each class of R39. -/
theorem witness_FlagWritesFollowTheTable :
    (writesAllButCarry (opcodeOf .inrM) = true ∧ ∃ t, exec .inrM State.reset = .next t) ∧
    (writesOnlyCarry (opcodeOf .dadB) = true ∧ ∃ t, exec .dadB State.reset = .next t) ∧
    (writesAllFlags (opcodeOf .inxB) = false ∧ writesAllButCarry (opcodeOf .inxB) = false ∧
      writesOnlyCarry (opcodeOf .inxB) = false ∧ ∃ t, exec .inxB State.reset = .next t) :=
  ⟨⟨rfl, _, rfl⟩, ⟨rfl, _, rfl⟩, rfl, rfl, rfl, _, rfl⟩

theorem witness_OnlyListedInstructionsUseTheBus :
    Instr.cma.documented = true ∧ accessesMemory (opcodeOf .cma) = false ∧ accessesPort (opcodeOf .cma) = false ∧
    (writesMemory (opcodeOf .ret) = false ∧ ∃ t, exec .ret State.reset = .next t) := ⟨rfl, rfl, rfl, rfl, _, rfl⟩

theorem witness_ControlStateIsWrittenOnlyByItsInstructions :
    (∃ t, exec .ei State.reset = .next t ∧ t.cpu.ie ≠ State.reset.cpu.ie) ∧
    (∃ t, exec .hlt State.reset = .next t ∧ t.cpu.active ≠ State.reset.cpu.active) ∧
    (writesSp (opcodeOf .xthl) = false ∧ ∃ t, exec .xthl State.reset = .next t) :=
  ⟨⟨_, rfl, by decide⟩, ⟨_, rfl, by decide⟩, rfl, _, rfl⟩

end Sys2Proof.Tests
end

section
/-! PROOFS. The obligations of 10_state.md: what every completed instruction may write (R36, R38, R39, R42, R43), the
invariant that every step keeps (R44), the permanent halt (R399, R400), and the views of the state (R33, R45, R46). -/

namespace Sys2Proof.Safety

open Sys2Proof.Machine

/-! ## What a completed instruction may write -/

/-- The flags `g` after an opcode follow the rows of R39 from the flags `f` before it. -/
def FlagsFollow (op : Byte) (f g : Flags) : Prop :=
  (writesAllButCarry op = true → g.cy = f.cy) ∧
  (writesOnlyCarry op = true → g = { f with cy := g.cy }) ∧
  (writesAllFlags op = false → writesAllButCarry op = false → writesOnlyCarry op = false → g = f)

/-- IE, active and SP are written as R42, R43 and R36 say. -/
def ControlFollows (i : Instr) (s t : State) : Prop :=
  (t.cpu.ie ≠ s.cpu.ie → (i = .ei ∧ t.cpu.ie = true) ∨ (i = .di ∧ t.cpu.ie = false)) ∧
  (t.cpu.active ≠ s.cpu.active → i = .hlt ∧ s.cpu.ie = false ∧ t.cpu.active = false) ∧
  (writesSp (opcodeOf i) = false → t.cpu.sp = s.cpu.sp)

/-- What one instruction that completes does to memory, the control state and the flags: `exec_effect` shows it of every
instruction, with one case split for all the statements below. -/
structure Effect (i : Instr) (s t : State) : Prop where
  wf : s.mem.wf = true → t.mem.wf = true
  control : ControlFollows i s t
  flags : FlagsFollow (opcodeOf i) s.cpu.flags t.cpu.flags

/-! ### The classes of R39 and R36, family by family -/

/-- Rows 1, 2, 4 and 9 of R39. -/
def AllFlagsClass (op : Byte) : Prop :=
  writesAllFlags op = true ∧ writesAllButCarry op = false ∧ writesOnlyCarry op = false

/-- Row 3 of R39. -/
def AllButCarryClass (op : Byte) : Prop := writesAllButCarry op = true ∧ writesOnlyCarry op = false

/-- Rows 5 to 8 of R39. -/
def OnlyCarryClass (op : Byte) : Prop := writesAllButCarry op = false ∧ writesOnlyCarry op = true

theorem allFlagsClass_aluReg (op : AluOp) (r : Reg) : AllFlagsClass (opcodeOf (.aluReg op r)) := by
  cases op <;> cases r <;> exact ⟨rfl, rfl, rfl⟩

theorem allFlagsClass_aluMem (op : AluOp) : AllFlagsClass (opcodeOf (.aluMem op)) := by
  cases op <;> exact ⟨rfl, rfl, rfl⟩

/-- The operand of an immediate form is no part of its opcode. -/
theorem opcodeOf_aluImm (op : AluOp) (v : Byte) : opcodeOf (.aluImm op v) = opcodeOf (.aluImm op 0) := by
  cases op <;> rfl

theorem allFlagsClass_aluImm (op : AluOp) (v : Byte) : AllFlagsClass (opcodeOf (.aluImm op v)) := by
  rw [opcodeOf_aluImm]
  cases op <;> exact ⟨rfl, rfl, rfl⟩

theorem allButCarryClass_inrReg (r : Reg) : AllButCarryClass (opcodeOf (.inrReg r)) := by
  cases r <;> exact ⟨rfl, rfl⟩

theorem allButCarryClass_dcrReg (r : Reg) : AllButCarryClass (opcodeOf (.dcrReg r)) := by
  cases r <;> exact ⟨rfl, rfl⟩

theorem onlyCarryClass_dad (p : Pair) : OnlyCarryClass (opcodeOf (.dad p)) := by
  cases p <;> exact ⟨rfl, rfl⟩

theorem writesSp_push (p : StackPair) : writesSp (opcodeOf (.push p)) = true := by cases p <;> rfl
theorem writesSp_pop (p : StackPair) : writesSp (opcodeOf (.pop p)) = true := by cases p <;> rfl

/-- The address of a conditional call is no part of its opcode. -/
theorem opcodeOf_callIf (code : Cond) (w : Word) : opcodeOf (.callIf code w) = opcodeOf (.callIf code 0) := by
  cases code <;> rfl

theorem writesSp_callIf (code : Cond) (w : Word) : writesSp (opcodeOf (.callIf code w)) = true := by
  rw [opcodeOf_callIf]
  cases code <;> rfl

theorem writesSp_retIf (code : Cond) : writesSp (opcodeOf (.retIf code)) = true := by cases code <;> rfl
theorem writesSp_rst (n : BitVec 3) : writesSp (opcodeOf (.rst n)) = true := by
  match n with
  | 0#3 | 1#3 | 2#3 | 3#3 | 4#3 | 5#3 | 6#3 | 7#3 => rfl

/-! ### The flags a result leaves -/

section Flags

variable {op : Byte} {f g : Flags}

theorem FlagsFollow.kept (h : g = f) : FlagsFollow op f g := by
  subst h
  exact ⟨fun _ => rfl, fun _ => rfl, fun _ _ _ => rfl⟩

theorem FlagsFollow.all (h : AllFlagsClass op) : FlagsFollow op f g := by
  obtain ⟨hall, hbut, honly⟩ := h
  simp [FlagsFollow, hall, hbut, honly]

theorem FlagsFollow.allButCarry (h : AllButCarryClass op) (hcy : g.cy = f.cy) : FlagsFollow op f g := by
  obtain ⟨hbut, honly⟩ := h
  simp [FlagsFollow, hbut, honly, hcy]

theorem FlagsFollow.onlyCarry (h : OnlyCarryClass op) (hg : g = { f with cy := g.cy }) : FlagsFollow op f g := by
  obtain ⟨hbut, honly⟩ := h
  simpa [FlagsFollow, hbut, honly] using hg

@[simp] theorem increment_cy (v : Byte) (f : Flags) : (increment v f).2.cy = f.cy := rfl
@[simp] theorem decrement_cy (v : Byte) (f : Flags) : (decrement v f).2.cy = f.cy := rfl

end Flags

/-! ### The shapes an effect takes -/

section Shapes

variable {i : Instr} {s t u : State}

/-- An effect speaks of no returned count. -/
theorem Effect.of_finish {n : Nat} (h : finish n u = .next t) (hu : Effect i s u) : Effect i s t := by
  obtain rfl := finish_eq_next.mp h
  exact ⟨hu.wf, hu.control, hu.flags⟩

/-- An instruction other than EI, DI and HLT keeps IE and active. -/
theorem Effect.of_keeps_ie_active (hctl : t.cpu.ie = s.cpu.ie ∧ t.cpu.active = s.cpu.active)
    (hwf : s.mem.wf = true → t.mem.wf = true) (hsp : writesSp (opcodeOf i) = true ∨ t.cpu.sp = s.cpu.sp)
    (hflags : FlagsFollow (opcodeOf i) s.cpu.flags t.cpu.flags) : Effect i s t := by
  refine ⟨hwf, ⟨fun h => absurd hctl.1 h, fun h => absurd hctl.2 h, fun h => ?_⟩, hflags⟩
  exact hsp.resolve_left (by simp [h])

/-- Memory and SP are kept too: registers, flags and pc change. -/
theorem Effect.flagging (hflags : FlagsFollow (opcodeOf i) s.cpu.flags t.cpu.flags)
    (h : t.mem = s.mem ∧ t.cpu.sp = s.cpu.sp ∧ t.cpu.ie = s.cpu.ie ∧ t.cpu.active = s.cpu.active) : Effect i s t := by
  obtain ⟨hmem, hsp, hie, hactive⟩ := h
  exact .of_keeps_ie_active ⟨hie, hactive⟩ (fun hw => hmem ▸ hw) (.inr hsp) hflags

/-- Memory, SP and the flags are kept: registers and pc change. -/
theorem Effect.quiet
    (h : t.mem = s.mem ∧ t.cpu.sp = s.cpu.sp ∧ t.cpu.ie = s.cpu.ie ∧ t.cpu.active = s.cpu.active ∧
      t.cpu.flags = s.cpu.flags) : Effect i s t := by
  obtain ⟨hmem, hsp, hie, hactive, hflags⟩ := h
  exact .flagging (.kept hflags) ⟨hmem, hsp, hie, hactive⟩

theorem Effect.refl : Effect i s s := .quiet (by simp)

/-- Memory and the flags are kept: registers, pc and SP change. -/
theorem Effect.moving (hsp : writesSp (opcodeOf i) = true)
    (h : t.mem = s.mem ∧ t.cpu.ie = s.cpu.ie ∧ t.cpu.active = s.cpu.active ∧ t.cpu.flags = s.cpu.flags) :
    Effect i s t := by
  obtain ⟨hmem, hie, hactive, hflags⟩ := h
  exact .of_keeps_ie_active ⟨hie, hactive⟩ (fun hw => hmem ▸ hw) (.inl hsp) (.kept hflags)

/-- A pair is written: SP only by the opcodes that name SP. -/
theorem Effect.setPair {p : Pair} {v : Word} (h : p = .sp → writesSp (opcodeOf i) = true) :
    Effect i s (s.setPair p v) := by
  cases p with
  | sp => exact .moving (h rfl) (by simp)
  | bc => exact .quiet (by simp)
  | de => exact .quiet (by simp)
  | hl => exact .quiet (by simp)

theorem Effect.accumulatorOp {f : Byte → Flags → Byte × Flags} (h : accumulatorOp f s = .next t)
    (hf : FlagsFollow (opcodeOf i) s.cpu.flags (f (s.reg .a) s.cpu.flags).2) : Effect i s t :=
  .of_finish h (.flagging (by simpa using hf) (by simp))

/-! A store leaves the core and the canonical form; a push moves SP besides, and a pop moves SP alone. -/

theorem memWrite1_keeps {a : Word} {v : Byte} (h : memWrite1 a v s = .next t) :
    t.cpu = s.cpu ∧ (s.mem.wf = true → t.mem.wf = true) := by
  obtain ⟨-, rfl⟩ := memWrite1_eq_next.mp h
  exact ⟨rfl, wf_write _ a v⟩

theorem memWrite2_keeps {a v : Word} (h : memWrite2 a v s = .next t) :
    t.cpu = s.cpu ∧ (s.mem.wf = true → t.mem.wf = true) := by
  obtain ⟨-, -, rfl⟩ := memWrite2_eq_next.mp h
  exact ⟨rfl, wf_writeWord _ a v⟩

theorem push16_keeps {v : Word} (h : push16 v s = .next t) :
    t.cpu = { s.cpu with sp := s.cpu.sp - 2 } ∧ (s.mem.wf = true → t.mem.wf = true) := by
  obtain ⟨-, -, rfl⟩ := push16_eq_next.mp h
  exact ⟨rfl, wf_writeWord _ _ v⟩

theorem pop16_keeps {x : Word × State} (h : pop16 s = .next x) : x.2 = s.setSp (s.cpu.sp + 2) := by
  obtain ⟨-, -, rfl⟩ := pop16_eq_next.mp h
  rfl

/-- A store comes before the rest of the effect. -/
theorem Effect.storing (hu : u.cpu = s.cpu ∧ (s.mem.wf = true → u.mem.wf = true)) (ht : Effect i u t) :
    Effect i s t := by
  obtain ⟨hcpu, hwf⟩ := hu
  refine ⟨fun h => ht.wf (hwf h), ?_, ?_⟩
  · simpa only [ControlFollows, hcpu] using ht.control
  · simpa only [hcpu] using ht.flags

/-- A push, by an opcode that writes SP, comes before the rest of the effect. -/
theorem Effect.pushing {v : Word} (hsp : writesSp (opcodeOf i) = true) (hu : push16 v s = .next u) (ht : Effect i u t) :
    Effect i s t := by
  obtain ⟨hcpu, hwf⟩ := push16_keeps hu
  obtain ⟨hie, hactive, -⟩ := ht.control
  refine ⟨fun h => ht.wf (hwf h), ⟨?_, ?_, by simp [hsp]⟩, ?_⟩
  · simpa only [hcpu] using hie
  · simpa only [hcpu] using hactive
  · simpa only [hcpu] using ht.flags

/-- `push16(pc); pc <- w`: the shape of calls and restarts. -/
theorem Effect.callTo {w : Word} (hsp : writesSp (opcodeOf i) = true) (h : callTo w s = .next t) : Effect i s t := by
  obtain ⟨u, hu, h⟩ := andThen_eq_next.mp h
  exact .pushing hsp hu (.of_finish h (.quiet (by simp)))

theorem Effect.returning (hsp : writesSp (opcodeOf i) = true) (h : returnFromStack s = .next t) : Effect i s t := by
  obtain ⟨-, -, rfl⟩ := returnFromStack_eq_next.mp h
  exact .moving hsp (by simp)

theorem Effect.loadA {n : Nat} {a : Word} (h : loadA n a s = .next t) : Effect i s t := by
  obtain ⟨v, -, h⟩ := andThen_eq_next.mp h
  exact .of_finish h (.quiet (by simp))

theorem Effect.storeA {n : Nat} {a : Word} (h : storeA n a s = .next t) : Effect i s t := by
  obtain ⟨u, hu, h⟩ := andThen_eq_next.mp h
  exact .storing (memWrite1_keeps hu) (.of_finish h .refl)

/-- INR and DCR of M: the store, then the flags of the result, CY kept. -/
theorem Effect.countMem {f : Byte → Flags → Byte × Flags} (hclass : AllButCarryClass (opcodeOf i))
    (hcy : ∀ v g, (f v g).2.cy = g.cy) (h : countMem f s = .next t) : Effect i s t := by
  obtain ⟨m, -, h⟩ := andThen_eq_next.mp h
  obtain ⟨u, hu, h⟩ := andThen_eq_next.mp h
  have hcpu := (memWrite1_keeps hu).1
  exact .storing (memWrite1_keeps hu)
    (.of_finish h (.flagging (.allButCarry hclass (by simp [hcy, hcpu])) (by simp)))

theorem Effect.countReg {f : Byte → Flags → Byte × Flags} {r : Reg} (hclass : AllButCarryClass (opcodeOf i))
    (hcy : ∀ v g, (f v g).2.cy = g.cy) (h : countReg f r s = .next t) : Effect i s t :=
  .of_finish h (.flagging (.allButCarry hclass (by simp [hcy])) (by simp))

end Shapes

/-- An undocumented byte raises IllegalOpcode with itself (R381). -/
theorem exec_undocumented {i : Instr} (hi : i.documented = false) (s : State) : exec i s = illegal (opcodeOf i) s := by
  unfold Instr.documented at hi
  split at hi
  case h_13 => cases hi
  all_goals rfl

/-- Every instruction that completes writes memory, the control state and the flags as the tables say. -/
theorem exec_effect {i : Instr} {s t : State} (h : exec i s = .next t) : Effect i s t := by
  induction i using Instr.byFamily with
  | movRegReg dst src =>
    rw [exec_movRegReg] at h
    exact .of_finish h (.quiet (by simp))
  | movRegMem dst =>
    rw [exec_movRegMem] at h
    obtain ⟨v, -, h⟩ := andThen_eq_next.mp h
    exact .of_finish h (.quiet (by simp))
  | movMemReg src =>
    rw [exec_movMemReg] at h
    obtain ⟨u, hu, h⟩ := andThen_eq_next.mp h
    exact .storing (memWrite1_keeps hu) (.of_finish h .refl)
  | mviReg dst v =>
    rw [exec_mviReg] at h
    exact .of_finish h (.quiet (by simp))
  | lxi p w =>
    rw [exec_lxi] at h
    exact .of_finish h (.setPair (by rintro rfl; rfl))
  | ldax p =>
    rw [exec_ldax] at h
    exact .loadA h
  | stax p =>
    rw [exec_stax] at h
    exact .storeA h
  | aluReg op r =>
    rw [exec_aluReg] at h
    exact .of_finish h (.flagging (.all (allFlagsClass_aluReg op r)) (by simp [State.withAlu]))
  | aluMem op =>
    rw [exec_aluMem] at h
    obtain ⟨m, -, h⟩ := andThen_eq_next.mp h
    exact .of_finish h (.flagging (.all (allFlagsClass_aluMem op)) (by simp [State.withAlu]))
  | aluImm op v =>
    rw [exec_aluImm] at h
    exact .of_finish h (.flagging (.all (allFlagsClass_aluImm op v)) (by simp [State.withAlu]))
  | inrReg r =>
    rw [exec_inrReg] at h
    exact .countReg (allButCarryClass_inrReg r) increment_cy h
  | dcrReg r =>
    rw [exec_dcrReg] at h
    exact .countReg (allButCarryClass_dcrReg r) decrement_cy h
  | inx p =>
    rw [exec_inx] at h
    exact .of_finish h (.setPair (by rintro rfl; rfl))
  | dcx p =>
    rw [exec_dcx] at h
    exact .of_finish h (.setPair (by rintro rfl; rfl))
  | dad p =>
    rw [exec_dad] at h
    exact .of_finish h (.flagging (.onlyCarry (onlyCarryClass_dad p) rfl) (by simp))
  | push p =>
    rw [exec_push] at h
    obtain ⟨u, hu, h⟩ := andThen_eq_next.mp h
    exact .pushing (writesSp_push p) hu (.of_finish h .refl)
  | pop p =>
    rw [exec_pop] at h
    obtain ⟨x, hx, h⟩ := andThen_eq_next.mp h
    refine .of_finish h (.moving (writesSp_pop p) ?_)
    simp [pop16_keeps hx]
  | jumpIf code w =>
    rw [exec_jumpIf, jumpIf] at h
    split at h
    · exact .of_finish h (.quiet (by simp))
    · exact .of_finish h .refl
  | callIf code w =>
    rw [exec_callIf, callIf] at h
    split at h
    · exact .callTo (writesSp_callIf code w) h
    · exact .of_finish h .refl
  | retIf code =>
    rw [exec_retIf, retIf] at h
    split at h
    · obtain ⟨u, hu, h⟩ := andThen_eq_next.mp h
      exact .of_finish h (.returning (writesSp_retIf code) hu)
    · exact .of_finish h .refl
  | rst n =>
    rw [exec_rst] at h
    obtain ⟨u, hu, h⟩ := andThen_eq_next.mp h
    exact .pushing (writesSp_rst n) hu (.of_finish h (.quiet (by simp)))
  | nop => exact .of_finish h .refl
  | rlc => exact .accumulatorOp h (.onlyCarry ⟨rfl, rfl⟩ rfl)
  | rrc => exact .accumulatorOp h (.onlyCarry ⟨rfl, rfl⟩ rfl)
  | ral => exact .accumulatorOp h (.onlyCarry ⟨rfl, rfl⟩ rfl)
  | rar => exact .accumulatorOp h (.onlyCarry ⟨rfl, rfl⟩ rfl)
  | shld a =>
    obtain ⟨u, hu, h⟩ := andThen_eq_next.mp h
    exact .storing (memWrite2_keeps hu) (.of_finish h .refl)
  | daa => exact .accumulatorOp h (.all ⟨rfl, rfl, rfl⟩)
  | lhld a =>
    obtain ⟨v, -, h⟩ := andThen_eq_next.mp h
    exact .of_finish h (.quiet (by simp))
  | cma => exact .of_finish h (.quiet (by simp))
  | sta a => exact .storeA h
  | inrM => exact .countMem ⟨rfl, rfl⟩ increment_cy h
  | dcrM => exact .countMem ⟨rfl, rfl⟩ decrement_cy h
  | mviM v =>
    obtain ⟨u, hu, h⟩ := andThen_eq_next.mp h
    exact .storing (memWrite1_keeps hu) (.of_finish h .refl)
  | stc => exact .of_finish h (.flagging (.onlyCarry ⟨rfl, rfl⟩ rfl) (by simp [setCarry]))
  | lda a => exact .loadA h
  | cmc => exact .of_finish h (.flagging (.onlyCarry ⟨rfl, rfl⟩ rfl) (by simp [setCarry]))
  | hlt =>
    refine .of_finish h ?_
    split
    · exact .refl
    · rename_i hie
      exact ⟨id, ⟨by simp, fun _ => ⟨rfl, by simpa using hie, rfl⟩, fun _ => rfl⟩, .kept rfl⟩
  | jmp w => exact .of_finish h (.quiet (by simp))
  | ret =>
    obtain ⟨u, hu, h⟩ := andThen_eq_next.mp h
    exact .of_finish h (.returning rfl hu)
  | call w => exact .callTo rfl h
  | outPort p =>
    obtain ⟨u, hu, h⟩ := andThen_eq_next.mp h
    obtain ⟨-, rfl⟩ := portOut_eq_next.mp hu
    exact .of_finish h (.quiet (by simp))
  | inPort p =>
    obtain ⟨x, hx, h⟩ := andThen_eq_next.mp h
    obtain ⟨-, rfl⟩ := portIn_eq_next.mp hx
    exact .of_finish h (.quiet (by simp))
  | xthl =>
    obtain ⟨v, -, h⟩ := andThen_eq_next.mp h
    obtain ⟨u, hu, h⟩ := andThen_eq_next.mp h
    exact .storing (memWrite2_keeps hu) (.of_finish h (.quiet (by simp)))
  | pchl => exact .of_finish h (.quiet (by simp))
  | xchg => exact .of_finish h (.quiet (by simp))
  | popPsw =>
    obtain ⟨x, hx, h⟩ := andThen_eq_next.mp h
    exact .of_finish h (.of_keeps_ie_active (by simp [pop16_keeps hx]) (by simp [pop16_keeps hx]) (.inl rfl)
      (.all ⟨rfl, rfl, rfl⟩))
  | di => exact .of_finish h ⟨id, ⟨fun _ => .inr ⟨rfl, rfl⟩, by simp, fun _ => rfl⟩, .kept rfl⟩
  | pushPsw =>
    obtain ⟨u, hu, h⟩ := andThen_eq_next.mp h
    exact .pushing rfl hu (.of_finish h .refl)
  | sphl => exact .of_finish h (.moving rfl (by simp))
  | ei => exact .of_finish h ⟨id, ⟨fun _ => .inl ⟨rfl, rfl⟩, by simp, fun _ => rfl⟩, .kept rfl⟩
  | undocumented i hi =>
    rw [exec_undocumented hi] at h
    cases h

/-- Settles O58, the flag part of what a completed instruction may write. -/
theorem flagWritesFollowTheTable : Obligations.FlagWritesFollowTheTable := by
  unfold Obligations.FlagWritesFollowTheTable
  intro i s t h
  exact (exec_effect h).flags

/-- Settles O60, the control part of what a completed instruction may write. -/
theorem controlStateIsWrittenOnlyByItsInstructions : Obligations.ControlStateIsWrittenOnlyByItsInstructions := by
  unfold Obligations.ControlStateIsWrittenOnlyByItsInstructions
  intro i s t h
  exact (exec_effect h).control

/-! ## What a step can answer -/

section Steps

variable {s t : State}

/-- An instruction fetched from memory runs on the state but for pc (R111). -/
theorem exec_of_executeFetched (h : executeFetched s = .next t) : ∃ i pc, exec i (s.setPc pc) = .next t := by
  obtain ⟨⟨i, n⟩, -, h⟩ := andThen_eq_next.mp h
  split at h
  · exact ⟨i, _, h⟩
  · exact ⟨i, s.cpu.pc, h⟩

/-- A replacement runs on the state itself (R113). -/
theorem exec_of_executeReplacement {op : Byte} {rest : List Byte} (h : executeReplacement op rest s = .next t) :
    ∃ i, exec i s = .next t := by
  unfold executeReplacement at h
  split at h
  next =>
    split at h
    next i _ _ => exact ⟨i, h⟩
    next => cases h
  next => cases h

/-- On an active core `execute()` runs one instruction, on the state but for pc, whatever the hook answers. -/
theorem exec_of_executeWith {trap : Option (Cpu → List Byte → List Byte)} (h : executeWith trap s = .next t)
    (hactive : s.cpu.active = true) : ∃ i pc, exec i (s.setPc pc) = .next t := by
  unfold executeWith at h
  rw [if_pos hactive] at h
  cases trap with
  | none => exact exec_of_executeFetched h
  | some hook =>
    obtain ⟨bytes, -, h⟩ := andThen_eq_next.mp h
    split at h
    next => exact exec_of_executeFetched h
    next =>
      obtain ⟨i, h⟩ := exec_of_executeReplacement h
      exact ⟨i, s.cpu.pc, h⟩

/-- A halted core only reports, and takes no answer from the hook (R380). -/
theorem execute_halted (h : s.cpu.active = false) : execute s = .next (s.setResult .halted) := by
  simp [execute, executeWith, h]

/-- With no call in the queue the host calls `execute` (log 2). -/
theorem step_of_calls_nil (h : s.calls = []) : step s = execute s := by
  simp [step, serveHost, h]

theorem step_of_calls_cons {c : HostCall} {rest : List HostCall} (h : s.calls = c :: rest) :
    step s = hostCall c (s.setCalls rest) := by
  simp [step, serveHost, h]

end Steps

/-! ## The invariant -/

/-- The invariant speaks of memory, active and IE alone. -/
theorem Inv.of_eq {s t : State} (hs : Inv s) (hmem : t.mem = s.mem) (hactive : t.cpu.active = s.cpu.active)
    (hie : t.cpu.ie = s.cpu.ie) : Inv t := by
  unfold Inv at hs ⊢
  rwa [hmem, hactive, hie]

/-- On an active core, as `execute` runs it, an instruction keeps the invariant: only HLT clears active, and it does so
with IE = 0 and writes no IE (R44). -/
theorem exec_keeps_inv {i : Instr} {s t : State} (h : exec i s = .next t)
    (hactive : s.cpu.active = true) (hs : Inv s) : Inv t := by
  have effect := exec_effect h
  obtain ⟨hie, hact, -⟩ := effect.control
  refine ⟨effect.wf hs.1, fun hinactive => ?_⟩
  obtain ⟨rfl, hdisabled, -⟩ := hact (by simp [hinactive, hactive])
  cases hie_t : t.cpu.ie with
  | false => rfl
  | true =>
    obtain ⟨hei, -⟩ | ⟨hdi, -⟩ := hie (by simp [hie_t, hdisabled])
    · cases hei
    · cases hdi

section Invariant

variable {s t : State}

theorem executeWith_keeps_inv {trap : Option (Cpu → List Byte → List Byte)} (h : executeWith trap s = .next t)
    (hactive : s.cpu.active = true) (hs : Inv s) : Inv t := by
  obtain ⟨i, pc, h⟩ := exec_of_executeWith h hactive
  exact exec_keeps_inv h hactive (hs.of_eq rfl rfl rfl)

theorem execute_keeps_inv (h : execute s = .next t) (hs : Inv s) : Inv t := by
  cases hactive : s.cpu.active with
  | false =>
    rw [execute_halted hactive] at h
    cases h
    exact hs.of_eq rfl rfl rfl
  | true =>
    rw [execute, hactive] at h
    split at h
    · exact executeWith_keeps_inv h hactive (hs.of_eq rfl rfl rfl)
    · exact executeWith_keeps_inv h hactive hs

/-- An accepted interrupt sets active, so only its push matters; a masked one changes nothing (R385, R386). -/
theorem interrupt_keeps_inv {code : Byte} (h : interrupt code s = .next t) (hs : Inv s) : Inv t := by
  obtain ⟨-, rfl⟩ | ⟨-, -, u, hu, rfl⟩ := interrupt_eq_next.mp h
  · exact hs.of_eq rfl rfl rfl
  · obtain ⟨-, -, rfl⟩ := takeInterrupt_eq_next.mp hu
    exact ⟨wf_writeWord _ _ _ hs.1, by simp [pushed]⟩

theorem resetVector_keeps_inv {vector : Nat} (h : resetVector vector s = .next t) (hs : Inv s) : Inv t := by
  unfold resetVector at h
  split at h
  · exact interrupt_keeps_inv h hs
  · cases h
    exact hs.of_eq rfl rfl rfl

theorem hostCall_keeps_inv {c : HostCall} (h : hostCall c s = .next t) (hs : Inv s) : Inv t := by
  cases c with
  | execute => exact execute_keeps_inv h hs
  | interrupt code => exact interrupt_keeps_inv h hs
  | reset vector => exact resetVector_keeps_inv h hs
  | inspect =>
    cases h
    exact hs.of_eq rfl rfl rfl
  | afterBusDestroyed => cases h
  | concurrent => cases h

end Invariant

/-- Settles O20: each call of the host keeps the invariant; an instruction does by `exec_effect`. -/
theorem everyStepKeepsTheInvariant : Obligations.EveryStepKeepsTheInvariant := by
  unfold Obligations.EveryStepKeepsTheInvariant
  intro s t hs h
  cases hcalls : s.calls with
  | nil =>
    rw [step_of_calls_nil hcalls] at h
    exact execute_keeps_inv h hs
  | cons c rest =>
    rw [step_of_calls_cons hcalls] at h
    exact hostCall_keeps_inv h (hs.of_eq rfl rfl rfl)

/-- Settles O21: the memory is empty and active = 1. -/
theorem resetMeetsTheInvariant : Obligations.ResetMeetsTheInvariant :=
  ⟨rfl, fun _ => rfl⟩

/-! ## The permanent halt -/

/-- On a core halted for good, an orderly call only returns something (R385, R388, R399). -/
theorem HaltedForGood.hostCall {c : HostCall} {s : State} (hs : HaltedForGood s) (hbus : c ≠ .afterBusDestroyed)
    (hconc : c ≠ .concurrent) : ∃ r, hostCall c s = .next (s.setResult r) := by
  obtain ⟨hactive, hie⟩ := hs
  have masked (code : Byte) : interrupt code s = .next (s.setResult .interruptMasked) :=
    interrupt_eq_next.mpr (.inl ⟨hie, rfl⟩)
  cases c with
  | execute => exact ⟨_, execute_halted hactive⟩
  | interrupt code => exact ⟨_, masked code⟩
  | reset vector =>
    by_cases h : vector < 8
    · exact ⟨_, (if_pos h).trans (masked _)⟩
    · exact ⟨_, if_neg h⟩
  | inspect => exact ⟨_, rfl⟩
  | afterBusDestroyed => exact absurd rfl hbus
  | concurrent => exact absurd rfl hconc

/-- A step of such a core drops the call it serves and sets what the call returned, and no more. -/
theorem HaltedForGood.step {s : State} (hs : HaltedForGood s) (hcalls : OnlyOrderlyCalls s) :
    ∃ r, step s = .next ((s.setCalls s.calls.tail).setResult r) := by
  obtain ⟨hbus, hconc⟩ := hcalls
  cases h : s.calls with
  | nil =>
    refine ⟨.halted, ?_⟩
    rw [step_of_calls_nil h, execute_halted hs.1, List.tail_nil, ← h]
    rfl
  | cons c rest =>
    rw [h, List.mem_cons, not_or] at hbus hconc
    rw [step_of_calls_cons h]
    exact HaltedForGood.hostCall hs (Ne.symm hbus.1) (Ne.symm hconc.1)

/-- The first step of a longer run. -/
theorem run_succ {M : Host.Core} {n : Nat} {s t : M.State} (h : M.step s = .next t) : M.run (n + 1) s = M.run n t := by
  rw [Host.Core.run, h]

/-- Settles O22, by induction on the number of steps. -/
theorem haltIsPermanent : Obligations.HaltIsPermanent := by
  unfold Obligations.HaltIsPermanent
  intro n
  induction n with
  | zero => exact fun s _ _ => ⟨s, rfl, rfl, rfl, rfl, rfl⟩
  | succ n ih =>
    intro s hs hcalls
    obtain ⟨r, hstep⟩ := hs.step hcalls
    obtain ⟨hbus, hconc⟩ := hcalls
    obtain ⟨t, hrun, hkept⟩ := ih ((s.setCalls s.calls.tail).setResult r) hs
      ⟨fun h => hbus (List.mem_of_mem_tail h), fun h => hconc (List.mem_of_mem_tail h)⟩
    exact ⟨t, (run_succ (M := core) hstep).trans hrun, hkept⟩

/-! ## Host calls, the reset state and the views of the state -/

/-- Settles O13: the step is the first call in the queue. -/
theorem hostCallsAreServedInOrder : Obligations.HostCallsAreServedInOrder := by
  unfold Obligations.HostCallsAreServedInOrder
  intro s rest
  exact ⟨fun _ => step_of_calls_cons, fun _ => step_of_calls_cons, step_of_calls_cons, step_of_calls_cons,
    step_of_calls_cons⟩

/-- Settles O19: each field, as R46 lists it. -/
theorem resetStateIsTheConstructionState : Obligations.ResetStateIsTheConstructionState := by
  unfold Obligations.ResetStateIsTheConstructionState
  refine ⟨fun r => ?_, rfl, rfl, rfl, by decide, rfl, rfl⟩
  cases r <;> rfl

/-- Settles O23 by the byte order of words (`toNat_concat`). -/
theorem pairsAliasTheirHalves : Obligations.PairsAliasTheirHalves := by
  unfold Obligations.PairsAliasTheirHalves
  intro s v
  exact ⟨toNat_concat _ _, toNat_concat _ _, toNat_concat _ _, toNat_highByte v, toNat_lowByte v, toNat_highByte v,
    toNat_lowByte v, toNat_highByte v, toNat_lowByte v, fun p => setPair_pair s p v⟩

end Sys2Proof.Safety
end

section
/-! PROOFS. The obligations of 20_memory.md: byte and word accesses (R73, R74, R77), the canonical form of memory (R74; log 7),
and which instructions use the bus after the fetch (R70, R71, R79). -/

namespace Sys2Proof.Safety

open Sys2Proof.Machine

/-! ## Byte and word accesses -/

theorem lowByte_eq_ofNat (v : Word) : lowByte v = BitVec.ofNat 8 v.toNat :=
  BitVec.eq_of_toNat_eq (by rw [toNat_lowByte, BitVec.toNat_ofNat])

theorem highByte_eq_ofNat (v : Word) : highByte v = BitVec.ofNat 8 (v.toNat / 256) :=
  BitVec.eq_of_toNat_eq (by
    rw [toNat_highByte, BitVec.toNat_ofNat]
    have := v.isLt
    omega)

/-- The two writes of a word, in the operations' own bytes. -/
theorem writableWord_iff {s : State} {a v : Word} :
    WritableWord s a v ↔
      s.admits (.write a (lowByte v)) = true ∧ s.admits (.write (a + 1) (highByte v)) = true := by
  rw [WritableWord, lowByte_eq_ofNat, highByte_eq_ofNat]

/-- The rest of the state may have moved on from `s` to `t`: only its memory counts. -/
theorem storesByte_setMem (s t : State) (a : Word) (v : Byte) :
    StoresByte s (t.setMem (s.mem.write a.toNat v)) a v := by
  refine ⟨by simp, fun x hx => ?_⟩
  rw [setMem_byteAt, read_write, if_neg (mt BitVec.toNat_inj.mp hx), State.byteAt]

theorem storesWord_setMem (s t : State) (a v : Word) :
    StoresWord s (t.setMem (writeWord s.mem a v)) a v.toNat := by
  refine ⟨?_, ?_, fun x hx hx1 => ?_⟩
  all_goals rw [setMem_byteAt, read_writeWord]
  · rw [if_neg (word_ne_succ a), if_pos rfl, toNat_lowByte]
  · rw [if_pos rfl, toNat_highByte]
  · rw [if_neg hx1, if_neg hx, State.byteAt]

theorem memWrite2_of_writableWord {s : State} {a v : Word} (h : WritableWord s a v) :
    memWrite2 a v s = .next (s.setMem (writeWord s.mem a v)) := by
  obtain ⟨hlo, hhi⟩ := writableWord_iff.mp h
  exact memWrite2_eq_next.mpr ⟨hlo, hhi, rfl⟩

theorem memRead2_of_readableWord {s : State} {a : Word} (h : ReadableWord s a) :
    memRead2 a s = .next (concat (s.byteAt (a + 1)) (s.byteAt a)) :=
  memRead2_eq_next.mpr ⟨h.1, h.2, rfl⟩

theorem toNat_concat_byteAt (s : State) (a : Word) :
    (concat (s.byteAt (a + 1)) (s.byteAt a)).toNat = wordAt s a := by
  rw [toNat_concat, wordAt, Nat.add_comm]

/-- Settles O24: each access that the board services, by what it answers. -/
theorem memoryAccesses : Obligations.MemoryAccesses := by
  unfold Obligations.MemoryAccesses
  refine fun s a => ⟨fun v hwrite => ?_, fun v hwrite => ?_, fun hread => ?_⟩
  · refine ⟨_, memWrite1_eq_next.mpr ⟨hwrite, rfl⟩, storesByte_setMem s s a v, wf_write _ a v, fun hread => ?_⟩
    exact memRead1_eq_next.mpr ⟨hread, (storesByte_setMem s s a v).1⟩
  · exact ⟨_, memWrite2_of_writableWord hwrite, storesWord_setMem s s a v⟩
  · exact ⟨_, memRead2_of_readableWord hread, toNat_concat_byteAt s a⟩

/-! ## The canonical form -/

theorem wfFrom_cons_iff {low : Nat} {cell : Host.Cell} {m : Memory} :
    Memory.wfFrom low (cell :: m) = true ↔
      low ≤ cell.1 ∧ cell.1 < Config.memorySize ∧ cell.2 ≠ Config.unlistedByte ∧
        Memory.wfFrom (cell.1 + 1) m = true := by
  simp [Memory.wfFrom, and_assoc]

theorem wfFrom_first {low : Nat} {cell : Host.Cell} {m : Memory} (hm : Memory.wfFrom low (cell :: m) = true) :
    Memory.wfFrom cell.1 (cell :: m) = true :=
  wfFrom_cons_iff.mpr ⟨Nat.le_refl _, (wfFrom_cons_iff.mp hm).2⟩

/-- Cells rise: below the first address that may be listed, every byte is unlisted. -/
theorem read_below {m : Memory} {low a : Nat} (hm : Memory.wfFrom low m = true) (ha : a < low) :
    m.read a = Config.unlistedByte := by
  induction m generalizing low with
  | nil => rfl
  | cons cell rest ih =>
    obtain ⟨hlow, -, -, hrest⟩ := wfFrom_cons_iff.mp hm
    rw [read_cons, if_neg (by omega)]
    exact ih hrest (by omega)

/-- Cells lie in the address space: beyond it, every byte is unlisted. -/
theorem read_outside {m : Memory} {low a : Nat} (hm : Memory.wfFrom low m = true) (ha : Config.memorySize ≤ a) :
    m.read a = Config.unlistedByte := by
  induction m generalizing low with
  | nil => rfl
  | cons cell rest ih =>
    obtain ⟨-, hsize, -, hrest⟩ := wfFrom_cons_iff.mp hm
    rw [read_cons, if_neg (by omega)]
    exact ih hrest

/-- The first cell of a canonical memory reads as listed, so a memory that reads the same lists a cell at or below it. -/
theorem first_cell_le {m n : Memory} {c : Host.Cell} {low high : Nat} (hm : Memory.wfFrom low (c :: m) = true)
    (hn : Memory.wfFrom high n = true) (hread : ∀ a, Memory.read (c :: m) a = n.read a) : high ≤ c.1 := by
  obtain ⟨-, -, hlisted, -⟩ := wfFrom_cons_iff.mp hm
  have hc : c.2 = n.read c.1 := by rw [← hread, read_cons, if_pos rfl]
  exact Nat.le_of_not_lt fun hlt => hlisted (hc.trans (read_below hn hlt))

/-- No canonical memory with a cell reads as unlisted everywhere. -/
theorem cons_not_read_nil {m : Memory} {c : Host.Cell} {low : Nat} (hm : Memory.wfFrom low (c :: m) = true) :
    ¬ ∀ a, Memory.read (c :: m) a = Memory.read [] a := fun hread =>
  absurd (first_cell_le (high := c.1 + 1) hm rfl hread) (by omega)

/-- The first cells agree, and each rest reads as unlisted at their address. -/
theorem eq_of_wfFrom_of_read_eq {m n : Memory} {low : Nat} (hm : Memory.wfFrom low m = true)
    (hn : Memory.wfFrom low n = true) (hread : ∀ a, m.read a = n.read a) : m = n := by
  induction m generalizing n low with
  | nil =>
    cases n with
    | nil => rfl
    | cons d n => exact absurd (fun a => (hread a).symm) (cons_not_read_nil hn)
  | cons c m ih =>
    cases n with
    | nil => exact absurd hread (cons_not_read_nil hm)
    | cons d n =>
      obtain ⟨-, -, -, hmrest⟩ := wfFrom_cons_iff.mp hm
      obtain ⟨-, -, -, hnrest⟩ := wfFrom_cons_iff.mp hn
      have haddress : c.1 = d.1 := Nat.le_antisymm
        (first_cell_le hn (wfFrom_first hm) fun a => (hread a).symm) (first_cell_le hm (wfFrom_first hn) hread)
      have hvalue : c.2 = d.2 := by simpa [haddress] using hread c.1
      rw [← haddress] at hnrest
      have hrest : m = n := by
        refine ih hmrest hnrest fun a => ?_
        by_cases ha : c.1 = a
        · rw [read_below hmrest (by omega), read_below hnrest (by omega)]
        · simpa [ha, haddress ▸ ha] using hread a
      rw [Prod.ext haddress hvalue, hrest]

/-- Settles O25: the 16-bit addresses are all a canonical memory lists, and its cells follow from what it reads as. -/
theorem canonicalMemoriesAreEqualWhenTheyReadEqual : Obligations.CanonicalMemoriesAreEqualWhenTheyReadEqual := by
  unfold Obligations.CanonicalMemoriesAreEqualWhenTheyReadEqual
  refine fun m n hm hn hread => eq_of_wfFrom_of_read_eq hm hn fun a => ?_
  by_cases ha : a < Config.memorySize
  · have hword : (BitVec.ofNat 16 a).toNat = a := Nat.mod_eq_of_lt ha
    simpa only [hword] using hread (BitVec.ofNat 16 a)
  · have hout : Config.memorySize ≤ a := Nat.le_of_not_lt ha
    rw [read_outside hm hout, read_outside hn hout]

/-! ## Which instructions use the bus after the fetch -/

/-- What an opcode answers on `s` follows the lists of R79 and R71: unlisted, it completes; memory changes only by the
opcodes listed as writing, and the port history only by IN and OUT. -/
structure UsesBus (op : Byte) (s : State) (o : Host.Outcome State Fault Refusal) : Prop where
  completes : accessesMemory op = false → accessesPort op = false → ∃ t, o = .next t
  mem : ∀ t, o = .next t → writesMemory op = false → t.mem = s.mem
  history : ∀ t, o = .next t → accessesPort op = false → t.history = s.history

/-! ### The lists of R79, family by family -/

/-- The opcodes that write memory are among those that access it. -/
theorem accessesMemory_of_writesMemory : ∀ op, writesMemory op = true → accessesMemory op = true := by decide

theorem accessesMemory_movRegMem (r : Reg) : accessesMemory (opcodeOf (.movRegMem r)) = true := by cases r <;> rfl
theorem writesMemory_movMemReg (r : Reg) : writesMemory (opcodeOf (.movMemReg r)) = true := by cases r <;> rfl
theorem accessesMemory_ldax (p : IndexPair) : accessesMemory (opcodeOf (.ldax p)) = true := by cases p <;> rfl
theorem writesMemory_stax (p : IndexPair) : writesMemory (opcodeOf (.stax p)) = true := by cases p <;> rfl
theorem accessesMemory_aluMem (op : AluOp) : accessesMemory (opcodeOf (.aluMem op)) = true := by cases op <;> rfl
theorem writesMemory_push (p : StackPair) : writesMemory (opcodeOf (.push p)) = true := by cases p <;> rfl
theorem accessesMemory_pop (p : StackPair) : accessesMemory (opcodeOf (.pop p)) = true := by cases p <;> rfl
theorem accessesMemory_retIf (code : Cond) : accessesMemory (opcodeOf (.retIf code)) = true := by cases code <;> rfl

theorem writesMemory_callIf (code : Cond) (w : Word) : writesMemory (opcodeOf (.callIf code w)) = true := by
  rw [opcodeOf_callIf]
  cases code <;> rfl

theorem writesMemory_rst (n : BitVec 3) : writesMemory (opcodeOf (.rst n)) = true := by
  match n with
  | 0#3 | 1#3 | 2#3 | 3#3 | 4#3 | 5#3 | 6#3 | 7#3 => rfl

/-! ### A store and a push record no port transaction -/

section Stores

variable {s t : State} {a : Word}

theorem memWrite1_history {v : Byte} (h : memWrite1 a v s = .next t) : t.history = s.history := by
  obtain ⟨-, rfl⟩ := memWrite1_eq_next.mp h
  rfl

theorem memWrite2_history {v : Word} (h : memWrite2 a v s = .next t) : t.history = s.history := by
  obtain ⟨-, -, rfl⟩ := memWrite2_eq_next.mp h
  rfl

theorem push16_history {v : Word} (h : push16 v s = .next t) : t.history = s.history :=
  memWrite2_history (s := s.setSp (s.cpu.sp - 2)) h

end Stores

/-! ### The shapes a meaning takes -/

section BusShapes

variable {α : Type} {op : Byte} {s u : State}

/-- No access is left to make. -/
theorem UsesBus.of_finish {n : Nat} (h : u.mem = s.mem ∧ u.history = s.history) : UsesBus op s (finish n u) := by
  obtain ⟨hmem, hhistory⟩ := h
  refine ⟨fun _ _ => ⟨_, rfl⟩, fun t ht _ => ?_, fun t ht _ => ?_⟩
  all_goals obtain rfl := finish_eq_next.mp ht
  · exact hmem
  · exact hhistory

/-- A read, by an opcode listed as accessing memory, comes before the rest. -/
theorem UsesBus.reading {o : Host.Outcome α Fault Refusal} {f : α → Host.Outcome State Fault Refusal}
    (hop : accessesMemory op = true) (hf : ∀ x, o = .next x → UsesBus op s (f x)) : UsesBus op s (andThen o f) := by
  refine ⟨fun hno => by simp [hop] at hno, fun t ht => ?_, fun t ht => ?_⟩
  all_goals obtain ⟨x, hx, ht⟩ := andThen_eq_next.mp ht
  · exact (hf x hx).mem t ht
  · exact (hf x hx).history t ht

/-- A store, by an opcode listed as writing memory, comes before the rest. -/
theorem UsesBus.storing {o : Host.Outcome State Fault Refusal} {f : State → Host.Outcome State Fault Refusal}
    (hop : writesMemory op = true) (hstore : ∀ {u}, o = .next u → u.history = s.history)
    (hf : ∀ u, UsesBus op u (f u)) : UsesBus op s (andThen o f) := by
  refine ⟨fun hno => by simp [accessesMemory_of_writesMemory op hop] at hno, fun t _ hno => by simp [hop] at hno,
    fun t ht hport => ?_⟩
  obtain ⟨u, hu, ht⟩ := andThen_eq_next.mp ht
  exact ((hf u).history t ht hport).trans (hstore hu)

/-- IN and OUT: only memory must be kept. -/
theorem UsesBus.transacting {o : Host.Outcome State Fault Refusal} (hop : accessesPort op = true)
    (hmem : ∀ t, o = .next t → t.mem = s.mem) : UsesBus op s o :=
  ⟨fun _ hno => by simp [hop] at hno, fun t ht _ => hmem t ht, fun t _ hno => by simp [hop] at hno⟩

theorem UsesBus.accumulatorOp (f : Byte → Flags → Byte × Flags) : UsesBus op s (accumulatorOp f s) :=
  .of_finish (by simp)

theorem UsesBus.loadA {n : Nat} {a : Word} (hop : accessesMemory op = true) : UsesBus op s (loadA n a s) :=
  .reading hop fun _ _ => .of_finish (by simp)

theorem UsesBus.storeA {n : Nat} {a : Word} (hop : writesMemory op = true) : UsesBus op s (storeA n a s) :=
  .storing hop memWrite1_history fun _ => .of_finish ⟨rfl, rfl⟩

/-- INR and DCR of M: the read, then the store. -/
theorem UsesBus.countMem {f : Byte → Flags → Byte × Flags} (hop : writesMemory op = true) :
    UsesBus op s (countMem f s) :=
  .reading (accessesMemory_of_writesMemory op hop) fun _ _ =>
    .storing hop memWrite1_history fun _ => .of_finish (by simp)

theorem UsesBus.callTo {w : Word} (hop : writesMemory op = true) : UsesBus op s (callTo w s) :=
  .storing hop push16_history fun _ => .of_finish (by simp)

theorem UsesBus.returning {n : Nat} (hop : accessesMemory op = true) :
    UsesBus op s (andThen (returnFromStack s) (finish n)) := by
  refine .reading hop fun u hu => .of_finish ?_
  obtain ⟨-, -, rfl⟩ := returnFromStack_eq_next.mp hu
  simp

end BusShapes

/-- Every documented instruction uses the bus only as the lists say. -/
theorem exec_usesBus {i : Instr} (s : State) (hi : i.documented = true) : UsesBus (opcodeOf i) s (exec i s) := by
  induction i using Instr.byFamily with
  | movRegReg dst src =>
    rw [exec_movRegReg]
    exact .of_finish (by simp)
  | movRegMem dst =>
    rw [exec_movRegMem]
    exact .reading (accessesMemory_movRegMem dst) fun _ _ => .of_finish (by simp)
  | movMemReg src =>
    rw [exec_movMemReg]
    exact .storing (writesMemory_movMemReg src) memWrite1_history fun _ => .of_finish ⟨rfl, rfl⟩
  | mviReg dst v =>
    rw [exec_mviReg]
    exact .of_finish (by simp)
  | lxi p w =>
    rw [exec_lxi]
    exact .of_finish (by simp)
  | ldax p =>
    rw [exec_ldax]
    exact .loadA (accessesMemory_ldax p)
  | stax p =>
    rw [exec_stax]
    exact .storeA (writesMemory_stax p)
  | aluReg op r =>
    rw [exec_aluReg]
    exact .of_finish (by simp [State.withAlu])
  | aluMem op =>
    rw [exec_aluMem]
    exact .reading (accessesMemory_aluMem op) fun _ _ => .of_finish (by simp [State.withAlu])
  | aluImm op v =>
    rw [exec_aluImm]
    exact .of_finish (by simp [State.withAlu])
  | inrReg r =>
    rw [exec_inrReg]
    exact .of_finish (by simp)
  | dcrReg r =>
    rw [exec_dcrReg]
    exact .of_finish (by simp)
  | inx p =>
    rw [exec_inx]
    exact .of_finish (by simp)
  | dcx p =>
    rw [exec_dcx]
    exact .of_finish (by simp)
  | dad p =>
    rw [exec_dad]
    exact .of_finish (by simp)
  | push p =>
    rw [exec_push]
    exact .storing (writesMemory_push p) push16_history fun _ => .of_finish ⟨rfl, rfl⟩
  | pop p =>
    rw [exec_pop]
    exact .reading (accessesMemory_pop p) fun _ hx => .of_finish (by simp [pop16_keeps hx])
  | jumpIf code w =>
    rw [exec_jumpIf, jumpIf]
    split
    · exact .of_finish (by simp)
    · exact .of_finish ⟨rfl, rfl⟩
  | callIf code w =>
    rw [exec_callIf, callIf]
    split
    · exact .callTo (writesMemory_callIf code w)
    · exact .of_finish ⟨rfl, rfl⟩
  | retIf code =>
    rw [exec_retIf, retIf]
    split
    · exact .returning (accessesMemory_retIf code)
    · exact .of_finish ⟨rfl, rfl⟩
  | rst n =>
    rw [exec_rst]
    exact .storing (writesMemory_rst n) push16_history fun _ => .of_finish (by simp)
  | nop => exact .of_finish ⟨rfl, rfl⟩
  | rlc => exact .accumulatorOp _
  | rrc => exact .accumulatorOp _
  | ral => exact .accumulatorOp _
  | rar => exact .accumulatorOp _
  | shld a => exact .storing rfl memWrite2_history fun _ => .of_finish ⟨rfl, rfl⟩
  | daa => exact .accumulatorOp _
  | lhld a => exact .reading rfl fun _ _ => .of_finish (by simp)
  | cma => exact .of_finish (by simp)
  | sta a => exact .storeA rfl
  | inrM => exact .countMem rfl
  | dcrM => exact .countMem rfl
  | mviM v => exact .storing rfl memWrite1_history fun _ => .of_finish ⟨rfl, rfl⟩
  | stc => exact .of_finish ⟨rfl, rfl⟩
  | lda a => exact .loadA rfl
  | cmc => exact .of_finish ⟨rfl, rfl⟩
  | hlt =>
    refine .of_finish ?_
    split
    · exact ⟨rfl, rfl⟩
    · exact ⟨rfl, rfl⟩
  | jmp w => exact .of_finish (by simp)
  | ret => exact .returning rfl
  | call w => exact .callTo rfl
  | outPort p =>
    refine .transacting rfl fun t ht => ?_
    obtain ⟨u, hu, ht⟩ := andThen_eq_next.mp ht
    obtain ⟨-, rfl⟩ := portOut_eq_next.mp hu
    obtain rfl := finish_eq_next.mp ht
    simp
  | inPort p =>
    refine .transacting rfl fun t ht => ?_
    obtain ⟨x, hx, ht⟩ := andThen_eq_next.mp ht
    obtain ⟨-, rfl⟩ := portIn_eq_next.mp hx
    obtain rfl := finish_eq_next.mp ht
    simp
  | xthl =>
    exact .reading rfl fun _ _ => .storing rfl memWrite2_history fun _ => .of_finish (by simp)
  | pchl => exact .of_finish (by simp)
  | xchg => exact .of_finish (by simp)
  | popPsw => exact .reading rfl fun _ hx => .of_finish (by simp [pop16_keeps hx])
  | di => exact .of_finish (by simp)
  | pushPsw => exact .storing rfl push16_history fun _ => .of_finish ⟨rfl, rfl⟩
  | sphl => exact .of_finish (by simp)
  | ei => exact .of_finish (by simp)
  | undocumented i hno => simp [hno] at hi

/-- Settles O59: an unlisted opcode writes no memory either, since those that do are listed. -/
theorem onlyListedInstructionsUseTheBus : Obligations.OnlyListedInstructionsUseTheBus := by
  unfold Obligations.OnlyListedInstructionsUseTheBus
  intro i s hi
  have bus := exec_usesBus s hi
  refine ⟨fun hmem hport => ?_, bus.mem, bus.history⟩
  have hwrites : writesMemory (opcodeOf i) = false := by
    simpa [hmem] using mt (accessesMemory_of_writesMemory (opcodeOf i))
  obtain ⟨t, ht⟩ := bus.completes hmem hport
  exact ⟨t, ht, bus.mem t ht hwrites, bus.history t ht hport⟩

end Sys2Proof.Safety
end

section
/-! PROOFS. The obligations of 30_encoding.md: the encoder and the decoder are inverse to each other (R106, R107, R109,
R110), the length of an instruction (R100, R101), the undocumented values (R108), and how a step fetches, from memory (R111) or
from the trap hook (R112, R113). -/

namespace Sys2Proof.Safety

open Sys2Proof.Machine

/-! ## The rows of the opcode table -/

/-- `Row op i`: the encoder's row of `i` has opcode byte `op`, and the decoder reads `op` back as that row, with the operand
from the bytes that follow. One constructor for each length of R100. -/
inductive Row (op : Byte) : Instr → Prop where
  | plain (i : Instr) (encodes : encode i = [op]) (length : instrLength op = 1)
      (decodes : ∀ b2 b3, decodeOpcode op b2 b3 = i) : Row op i
  | byteOperand (f : Byte → Instr) (encodes : ∀ v, encode (f v) = [op, v]) (length : instrLength op = 2)
      (decodes : ∀ b2 b3, decodeOpcode op b2 b3 = f b2) (v : Byte) : Row op (f v)
  | wordOperand (f : Word → Instr) (encodes : ∀ w, encode (f w) = [op, lowByte w, highByte w])
      (length : instrLength op = 3) (decodes : ∀ b2 b3, decodeOpcode op b2 b3 = f (concat b3 b2)) (w : Word) :
      Row op (f w)

theorem opcodeOf_mviReg (dst : Reg) (v : Byte) : opcodeOf (.mviReg dst v) = opcodeOf (.mviReg dst 0) := by
  cases dst <;> rfl

theorem opcodeOf_lxi (p : Pair) (w : Word) : opcodeOf (.lxi p w) = opcodeOf (.lxi p 0) := by cases p <;> rfl

theorem opcodeOf_jumpIf (code : Cond) (w : Word) : opcodeOf (.jumpIf code w) = opcodeOf (.jumpIf code 0) := by
  cases code <;> rfl

/-- An undocumented row is one of the twelve bytes of R108, alone. -/
theorem row_undocumented {i : Instr} (hi : i.documented = false) :
    opcodeOf i ∈ undocumentedOpcodes ∧ encode i = [opcodeOf i] ∧ instrLength (opcodeOf i) = 1 ∧
      ∀ b2 b3, decodeOpcode (opcodeOf i) b2 b3 = i := by
  unfold Instr.documented at hi
  split at hi
  case h_13 => cases hi
  all_goals exact ⟨by decide, rfl, rfl, fun _ _ => rfl⟩

/-- Encoder and decoder agree on every row. -/
theorem row_opcodeOf (i : Instr) : Row (opcodeOf i) i := by
  induction i using Instr.byFamily with
  | movRegReg dst src => cases dst <;> cases src <;> exact .plain _ rfl rfl fun _ _ => rfl
  | movRegMem dst => cases dst <;> exact .plain _ rfl rfl fun _ _ => rfl
  | movMemReg src => cases src <;> exact .plain _ rfl rfl fun _ _ => rfl
  | mviReg dst v =>
    rw [opcodeOf_mviReg]
    cases dst <;> exact .byteOperand (.mviReg _) (fun _ => rfl) rfl (fun _ _ => rfl) v
  | lxi p w =>
    rw [opcodeOf_lxi]
    cases p <;> exact .wordOperand (.lxi _) (fun _ => rfl) rfl (fun _ _ => rfl) w
  | ldax p => cases p <;> exact .plain _ rfl rfl fun _ _ => rfl
  | stax p => cases p <;> exact .plain _ rfl rfl fun _ _ => rfl
  | aluReg op r => cases op <;> cases r <;> exact .plain _ rfl rfl fun _ _ => rfl
  | aluMem op => cases op <;> exact .plain _ rfl rfl fun _ _ => rfl
  | aluImm op v =>
    rw [opcodeOf_aluImm]
    cases op <;> exact .byteOperand (.aluImm _) (fun _ => rfl) rfl (fun _ _ => rfl) v
  | inrReg r => cases r <;> exact .plain _ rfl rfl fun _ _ => rfl
  | dcrReg r => cases r <;> exact .plain _ rfl rfl fun _ _ => rfl
  | inx p => cases p <;> exact .plain _ rfl rfl fun _ _ => rfl
  | dcx p => cases p <;> exact .plain _ rfl rfl fun _ _ => rfl
  | dad p => cases p <;> exact .plain _ rfl rfl fun _ _ => rfl
  | push p => cases p <;> exact .plain _ rfl rfl fun _ _ => rfl
  | pop p => cases p <;> exact .plain _ rfl rfl fun _ _ => rfl
  | jumpIf code w =>
    rw [opcodeOf_jumpIf]
    cases code <;> exact .wordOperand (.jumpIf _) (fun _ => rfl) rfl (fun _ _ => rfl) w
  | callIf code w =>
    rw [opcodeOf_callIf]
    cases code <;> exact .wordOperand (.callIf _) (fun _ => rfl) rfl (fun _ _ => rfl) w
  | retIf code => cases code <;> exact .plain _ rfl rfl fun _ _ => rfl
  | rst n =>
    match n with
    | 0#3 | 1#3 | 2#3 | 3#3 | 4#3 | 5#3 | 6#3 | 7#3 => exact .plain _ rfl rfl fun _ _ => rfl
  | nop | rlc | rrc | ral | rar | daa | cma | stc | cmc | inrM | dcrM | hlt | ret | xthl | pchl | xchg | popPsw | pushPsw
  | sphl | di | ei => exact .plain _ rfl rfl fun _ _ => rfl
  | mviM v => exact .byteOperand .mviM (fun _ => rfl) rfl (fun _ _ => rfl) v
  | outPort p => exact .byteOperand .outPort (fun _ => rfl) rfl (fun _ _ => rfl) p
  | inPort p => exact .byteOperand .inPort (fun _ => rfl) rfl (fun _ _ => rfl) p
  | shld a => exact .wordOperand .shld (fun _ => rfl) rfl (fun _ _ => rfl) a
  | lhld a => exact .wordOperand .lhld (fun _ => rfl) rfl (fun _ _ => rfl) a
  | sta a => exact .wordOperand .sta (fun _ => rfl) rfl (fun _ _ => rfl) a
  | lda a => exact .wordOperand .lda (fun _ => rfl) rfl (fun _ _ => rfl) a
  | jmp w => exact .wordOperand .jmp (fun _ => rfl) rfl (fun _ _ => rfl) w
  | call w => exact .wordOperand .call (fun _ => rfl) rfl (fun _ _ => rfl) w
  | undocumented i hi =>
    obtain ⟨-, encodes, length, decodes⟩ := row_undocumented hi
    exact .plain i encodes length decodes

/-- Every byte is the opcode byte of the row it decodes to, so every byte has a row. -/
theorem exists_row (op : Byte) : ∃ i, Row op i := by
  have hits : ∀ op, opcodeOf (decodeOpcode op 0 0) = op := by decide
  have row := row_opcodeOf (decodeOpcode op 0 0)
  rw [hits] at row
  exact ⟨_, row⟩

/-- The decoder's length of an opcode byte is that of the formats of R101. -/
theorem instrLength_eq_formatLength : ∀ op, instrLength op = formatLength op := by decide

section Rows

variable {op : Byte} {i : Instr}

theorem Row.length_encode (row : Row op i) : (encode i).length = instrLength op := by
  cases row with
  | plain _ encodes length => simp [encodes, length]
  | byteOperand f encodes length => simp [encodes, length]
  | wordOperand f encodes length => simp [encodes, length]

theorem Row.decode_encode (row : Row op i) (rest : List Byte) : decode (encode i ++ rest) = .ok (i, rest) := by
  cases row with
  | plain _ encodes length decodes => simp [encodes, decode, length, decodes]
  | byteOperand f encodes length decodes v => simp [encodes, decode, length, decodes]
  | wordOperand f encodes length decodes w => simp [encodes, decode, length, decodes]

end Rows

/-- The operand bytes are no part of the opcode. -/
theorem opcodeOf_decodeOpcode (op b2 b3 : Byte) : opcodeOf (decodeOpcode op b2 b3) = op := by
  obtain ⟨i, row⟩ := exists_row op
  cases row with
  | plain _ encodes _ decodes => simp [opcodeOf, encodes, decodes]
  | byteOperand f encodes _ decodes => simp [opcodeOf, encodes, decodes]
  | wordOperand f encodes _ decodes => simp [opcodeOf, encodes, decodes]

/-- Bytes that start with `op` are too few for it, or begin with the encoding of an instruction. -/
theorem tooShort_or_encode_append (op : Byte) (more : List Byte) :
    more.length + 1 < instrLength op ∨ ∃ i rest, Row op i ∧ encode i ++ rest = op :: more := by
  obtain ⟨i, row⟩ := exists_row op
  cases row with
  | plain _ encodes length decodes =>
    exact .inr ⟨i, more, .plain i encodes length decodes, by simp [encodes]⟩
  | byteOperand f encodes length decodes =>
    match more with
    | [] => exact .inl (by simp [length])
    | b2 :: rest => exact .inr ⟨f b2, rest, .byteOperand f encodes length decodes b2, by simp [encodes]⟩
  | wordOperand f encodes length decodes =>
    match more with
    | [] | [_] => exact .inl (by simp [length])
    | b2 :: b3 :: rest =>
      exact .inr ⟨f (concat b3 b2), rest, .wordOperand f encodes length decodes _, by simp [encodes]⟩

theorem instrLength_mem : ∀ op, instrLength op = 1 ∨ instrLength op = 2 ∨ instrLength op = 3 := by decide

theorem decode_truncated {op : Byte} {more : List Byte} (h : more.length + 1 < instrLength op) :
    decode (op :: more) = .error (.truncated op) := by
  obtain hlen | hlen | hlen := instrLength_mem op
  · omega
  · match more with
    | [] => simp [decode, hlen]
    | _ :: _ => simp only [List.length_cons] at h; omega
  · match more with
    | [] | [_] => simp [decode, hlen]
    | _ :: _ :: _ => simp only [List.length_cons] at h; omega

/-- What decoding bytes that start with `op` can answer. -/
theorem decode_cons (op : Byte) (more : List Byte) :
    (more.length + 1 < instrLength op ∧ decode (op :: more) = .error (.truncated op)) ∨
    (instrLength op ≤ more.length + 1 ∧
      ∃ i rest, encode i ++ rest = op :: more ∧ decode (op :: more) = .ok (i, rest)) := by
  obtain hshort | ⟨i, rest, row, hbytes⟩ := tooShort_or_encode_append op more
  · exact .inl ⟨hshort, decode_truncated hshort⟩
  · refine .inr ⟨?_, i, rest, hbytes, hbytes ▸ row.decode_encode rest⟩
    have hlength := congrArg List.length hbytes
    rw [List.length_append, row.length_encode, List.length_cons] at hlength
    omega

/-! ## Decoding and encoding -/

/-- Settles O2, row by row. -/
theorem decodeInvertsEncode : Obligations.DecodeInvertsEncode := by
  unfold Obligations.DecodeInvertsEncode
  exact fun i rest => (row_opcodeOf i).decode_encode rest

/-- Settles O3: bytes that are not too short begin with an encoding, and that is what they decode to. -/
theorem encodeInvertsDecode : Obligations.EncodeInvertsDecode := by
  unfold Obligations.EncodeInvertsDecode
  intro bytes i rest h
  cases bytes with
  | nil => cases h
  | cons op more =>
    obtain ⟨-, hdecode⟩ | ⟨-, j, rest', hbytes, hdecode⟩ := decode_cons op more
    · rw [hdecode] at h
      cases h
    · rw [hdecode] at h
      cases h
      exact hbytes

theorem decode_eq_truncated_iff {bytes : List Byte} {op : Byte} :
    decode bytes = .error (.truncated op) ↔ bytes.head? = some op ∧ bytes.length < formatLength op := by
  cases bytes with
  | nil => simp [decode]
  | cons first more =>
    obtain ⟨hlength, hdecode⟩ | ⟨hlength, i, rest, -, hdecode⟩ := decode_cons first more
    all_goals rw [hdecode, List.head?_cons, List.length_cons, ← instrLength_eq_formatLength]
    · constructor
      · rintro ⟨⟩
        exact ⟨rfl, hlength⟩
      · rintro ⟨⟨⟩, -⟩
        rfl
    · constructor
      · rintro ⟨⟩
      · rintro ⟨⟨⟩, hshort⟩
        omega

theorem decode_eq_noBytes_iff {bytes : List Byte} : decode bytes = .error .noBytes ↔ bytes = [] := by
  cases bytes with
  | nil => simp [decode]
  | cons op more =>
    obtain ⟨-, hdecode⟩ | ⟨-, i, rest, -, hdecode⟩ := decode_cons op more
    all_goals simp [hdecode]

/-- Settles O4: what decodes is an encoding (O3), as long as its row says. -/
theorem decodeFailsOnlyOnMissingBytes : Obligations.DecodeFailsOnlyOnMissingBytes := by
  unfold Obligations.DecodeFailsOnlyOnMissingBytes
  refine fun bytes => ⟨decode_eq_noBytes_iff, fun op => decode_eq_truncated_iff, fun i rest h => ?_⟩
  rw [← encodeInvertsDecode bytes i rest h, List.length_append, (row_opcodeOf i).length_encode,
    instrLength_eq_formatLength]

/-- Settles O1: each word, decoded by evaluation. -/
theorem specWordsDecodeToTheirInstructions : Obligations.SpecWordsDecodeToTheirInstructions := by
  unfold Obligations.SpecWordsDecodeToTheirInstructions
  exact ⟨rfl, rfl, rfl, rfl, rfl, rfl, rfl, rfl, rfl, rfl, rfl⟩

/-! ## The undocumented values -/

theorem decodeOpcode_undocumented {op : Byte} (hop : op ∈ undocumentedOpcodes) (b2 b3 : Byte) :
    (decodeOpcode op b2 b3).documented = false := by
  simp only [undocumentedOpcodes, List.mem_cons, List.not_mem_nil, or_false] at hop
  obtain rfl | rfl | rfl | rfl | rfl | rfl | rfl | rfl | rfl | rfl | rfl | rfl := hop
  all_goals rfl

/-- Settles O5: the row of an undocumented instruction has one of the twelve bytes, and the decoder gives each byte its
own row. -/
theorem twelveOpcodesAreUndocumented : Obligations.TwelveOpcodesAreUndocumented := by
  unfold Obligations.TwelveOpcodesAreUndocumented
  refine fun op b2 b3 => ⟨fun h => ?_, fun hop => decodeOpcode_undocumented hop b2 b3⟩
  have hmem := (row_undocumented h).1
  rwa [opcodeOf_decodeOpcode] at hmem

/-- Settles O10: the byte is the row's own. -/
theorem undocumentedRowsStop : Obligations.UndocumentedRowsStop := by
  unfold Obligations.UndocumentedRowsStop
  intro i s hi
  obtain ⟨hmem, hencode, -⟩ := row_undocumented hi
  exact ⟨opcodeOf i, hmem, hencode, exec_undocumented hi s⟩

/-! ## The fetch -/

section Execute

variable {s : State}

theorem memRead1_of_admits {a : Word} (h : s.admits (.read a) = true) : memRead1 a s = .next (s.byteAt a) :=
  memRead1_eq_next.mpr ⟨h, rfl⟩

theorem memRead1_of_not_admits {a : Word} (h : s.admits (.read a) = false) :
    memRead1 a s = .fault (.busFault (.read a)) :=
  memRead1_eq_fault.mpr ⟨h, rfl⟩

theorem bytesAtPc_three (s : State) :
    bytesAtPc s 3 = [s.byteAt s.cpu.pc, s.byteAt (s.cpu.pc + 1), s.byteAt (s.cpu.pc + 2)] := by
  simp [bytesAtPc, List.range_succ]

theorem bytesAtPc_four (s : State) : bytesAtPc s 4 =
    [s.byteAt s.cpu.pc, s.byteAt (s.cpu.pc + 1), s.byteAt (s.cpu.pc + 2), s.byteAt (s.cpu.pc + 3)] := by
  simp [bytesAtPc, List.range_succ]

/-- Each of the first `n` bytes at pc that a fetch or a hook may need is read. -/
theorem Fetchable.reads {n : Nat} (h : Fetchable s n) :
    (0 < n → memRead1 s.cpu.pc s = .next (s.byteAt s.cpu.pc)) ∧
    (1 < n → memRead1 (s.cpu.pc + 1) s = .next (s.byteAt (s.cpu.pc + 1))) ∧
    (2 < n → memRead1 (s.cpu.pc + 2) s = .next (s.byteAt (s.cpu.pc + 2))) ∧
    (3 < n → memRead1 (s.cpu.pc + 3) s = .next (s.byteAt (s.cpu.pc + 3))) :=
  ⟨fun hn => memRead1_of_admits (by simpa using h 0 hn), fun hn => memRead1_of_admits (h 1 hn),
    fun hn => memRead1_of_admits (h 2 hn), fun hn => memRead1_of_admits (h 3 hn)⟩

/-- When memory at pc begins with the encoding of `i`, and the board services it, `i` is fetched. -/
theorem fetch_of_encode_append {i : Instr} {rest : List Byte} (hbytes : encode i ++ rest = bytesAtPc s 3)
    (hfetch : Fetchable s (encode i).length) : fetch s = .next (i, (encode i).length) := by
  rw [(row_opcodeOf i).length_encode] at hfetch ⊢
  obtain ⟨read0, read1, read2, -⟩ := hfetch.reads
  rw [bytesAtPc_three] at hbytes
  cases row_opcodeOf i with
  | plain _ encodes length decodes =>
    rw [encodes] at hbytes
    rw [length] at read0 ⊢
    obtain ⟨hop, -⟩ := List.cons.inj hbytes
    simp only [fetch, read0 (by decide), ← hop, length, decodes, andThen_next]
  | byteOperand f encodes length decodes v =>
    rw [encodes] at hbytes
    rw [length] at read0 read1 ⊢
    obtain ⟨hop, hbytes⟩ := List.cons.inj hbytes
    obtain ⟨hv, -⟩ := List.cons.inj hbytes
    simp only [fetch, read0 (by decide), read1 (by decide), ← hop, ← hv, length, decodes, andThen_next]
  | wordOperand f encodes length decodes w =>
    rw [encodes] at hbytes
    rw [length] at read0 read1 read2 ⊢
    obtain ⟨hop, hbytes⟩ := List.cons.inj hbytes
    obtain ⟨hlow, hbytes⟩ := List.cons.inj hbytes
    obtain ⟨hhigh, -⟩ := List.cons.inj hbytes
    simp only [fetch, read0 (by decide), read1 (by decide), read2 (by decide), ← hop, ← hlow, ← hhigh, length,
      decodes, concat_high_low, andThen_next]

/-- Bytes are fetched in address order, so the first that is not serviced is the fault. -/
theorem fetch_of_unserviced {n : Nat} (hfetch : Fetchable s n) (hn : n < instrLength (s.byteAt s.cpu.pc))
    (hread : s.admits (.read (s.cpu.pc + BitVec.ofNat 16 n)) = false) :
    fetch s = .fault (.busFault (.read (s.cpu.pc + BitVec.ofNat 16 n))) := by
  obtain ⟨read0, read1, -⟩ := hfetch.reads
  have hlength := instrLength_mem (s.byteAt s.cpu.pc)
  match n with
  | 0 =>
    rw [BitVec.add_zero] at hread ⊢
    rw [fetch, memRead1_of_not_admits hread, andThen_fault]
  | 1 =>
    have fault : memRead1 (s.cpu.pc + 1) s = .fault (.busFault (.read (s.cpu.pc + 1))) := memRead1_of_not_admits hread
    obtain hlen | hlen : instrLength (s.byteAt s.cpu.pc) = 2 ∨ instrLength (s.byteAt s.cpu.pc) = 3 := by omega
    all_goals
      simp only [fetch, read0 (by decide), hlen, fault, andThen_next, andThen_fault]
      rfl
  | 2 =>
    have fault : memRead1 (s.cpu.pc + 2) s = .fault (.busFault (.read (s.cpu.pc + 2))) := memRead1_of_not_admits hread
    have hlen : instrLength (s.byteAt s.cpu.pc) = 3 := by omega
    simp only [fetch, read0 (by decide), read1 (by decide), hlen, fault, andThen_next, andThen_fault]
    rfl
  | n + 3 => omega

/-! ## The hook -/

theorem hookBytes_of_fetchable (h : Fetchable s 4) : hookBytes s = .next (bytesAtPc s 4) := by
  obtain ⟨read0, read1, read2, read3⟩ := h.reads
  simp only [hookBytes, read0 (by decide), read1 (by decide), read2 (by decide), read3 (by decide), andThen_next,
    bytesAtPc_four]

section Hook

variable {hook : Cpu → List Byte → List Byte}

/-- Without a hook an active core runs what it fetches. -/
theorem executeWith_none (hactive : s.cpu.active = true) : executeWith none s = executeFetched s :=
  if_pos hactive

theorem executeWith_no_replacement (hactive : s.cpu.active = true) (hfetch : Fetchable s 4)
    (hanswer : hook s.cpu (bytesAtPc s 4) = []) : executeWith (some hook) s = executeFetched s := by
  simp only [executeWith, hactive, hookBytes_of_fetchable hfetch, andThen_next, hanswer, if_true]

theorem executeWith_replacement (hactive : s.cpu.active = true) (hfetch : Fetchable s 4) {op : Byte} {more : List Byte}
    (hanswer : hook s.cpu (bytesAtPc s 4) = op :: more) :
    executeWith (some hook) s = executeReplacement op more s := by
  simp only [executeWith, hactive, hookBytes_of_fetchable hfetch, andThen_next, hanswer, if_true]

/-- Only the hook's answer counts. -/
theorem executeWith_congr {hook' : Cpu → List Byte → List Byte} (hactive : s.cpu.active = true)
    (hfetch : Fetchable s 4) (hanswer : hook s.cpu (bytesAtPc s 4) = hook' s.cpu (bytesAtPc s 4)) :
    executeWith (some hook) s = executeWith (some hook') s := by
  cases h : hook' s.cpu (bytesAtPc s 4) with
  | nil =>
    rw [executeWith_no_replacement hactive hfetch h, executeWith_no_replacement hactive hfetch (hanswer.trans h)]
  | cons op more =>
    rw [executeWith_replacement hactive hfetch h, executeWith_replacement hactive hfetch (hanswer.trans h)]

end Hook

section Replacement

variable {op : Byte} {more : List Byte}

theorem replacementFits_of_length (h : more.length ≤ 3) : replacementFits (op :: more) = true :=
  decide_eq_true (Nat.succ_le_succ h)

theorem executeReplacement_of_decode (h : more.length ≤ 3) {i : Instr} {rest : List Byte}
    (hdecode : decode (op :: more) = .ok (i, rest)) : executeReplacement op more s = exec i s := by
  rw [executeReplacement, if_pos (replacementFits_of_length h), hdecode]

theorem executeReplacement_of_truncated (h : more.length ≤ 3) (hshort : more.length + 1 < instrLength op) :
    executeReplacement op more s = .refused (.replacementTooShort op) := by
  rw [executeReplacement, if_pos (replacementFits_of_length h), decode_truncated hshort]

end Replacement

/-! ## The step -/

/-- A step that executes takes the call from the queue and leaves the rest to `execute` (log 2). -/
theorem NextIsExecute.step_eq_execute {u : State} (h : NextIsExecute s u) :
    step s = execute u ∧ ∃ calls, u = s.setCalls calls := by
  obtain ⟨hcalls, rfl⟩ | ⟨rest, hcalls, rfl⟩ := h
  · exact ⟨step_of_calls_nil hcalls, u.calls, rfl⟩
  · exact ⟨step_of_calls_cons hcalls, rest, rfl⟩

/-- On an active core without a hook it runs what it fetches. -/
theorem NextIsExecute.step_eq_executeFetched {u : State} (h : NextIsExecute s u) (hactive : s.cpu.active = true)
    (hhook : s.hookAnswers = none) : step s = executeFetched u ∧ ∃ calls, u = s.setCalls calls := by
  obtain ⟨hstep, calls, rfl⟩ := h.step_eq_execute
  refine ⟨?_, calls, rfl⟩
  rw [hstep, execute, setCalls_cpu_active, setCalls_hookAnswers, hactive, hhook]
  exact executeWith_none hactive

end Execute

/-- Settles O6: memory at pc begins with the encoding of `i` (O3), so `i` is fetched. -/
theorem stepRunsTheDecodedInstruction : Obligations.StepRunsTheDecodedInstruction := by
  unfold Obligations.StepRunsTheDecodedInstruction
  intro s u i rest hnext hactive hhook hdecode hdocumented hfetch
  obtain ⟨hstep, calls, rfl⟩ := hnext.step_eq_executeFetched hactive hhook
  have hfetched : fetch (s.setCalls calls) = .next (i, (encode i).length) :=
    fetch_of_encode_append (encodeInvertsDecode _ i rest hdecode) hfetch
  rw [hstep, executeFetched, hfetched, andThen_next, if_pos hdocumented, setCalls_cpu_pc]

/-- Settles O7: nothing, a whole instruction, or too few bytes. -/
theorem hookAnswersReplaceTheFetch : Obligations.HookAnswersReplaceTheFetch := by
  unfold Obligations.HookAnswersReplaceTheFetch
  intro hook s hactive hfetch
  refine ⟨fun hnone => ?_, fun op more hanswer hlength => ⟨fun i rest hdecode => ?_, fun hshort => ?_⟩⟩
  · rw [executeWith_no_replacement hactive hfetch hnone, executeWith_none hactive]
  · rw [executeWith_replacement hactive hfetch hanswer, executeReplacement_of_decode hlength hdecode]
  · rw [← instrLength_eq_formatLength] at hshort
    rw [executeWith_replacement hactive hfetch hanswer, executeReplacement_of_truncated hlength hshort]

/-- Settles O12: the fault of the fetch is the step's. -/
theorem unservicedFetchFaults : Obligations.UnservicedFetchFaults := by
  unfold Obligations.UnservicedFetchFaults
  intro s u n hnext hactive hhook hfetch hn hread
  obtain ⟨hstep, calls, rfl⟩ := hnext.step_eq_executeFetched hactive hhook
  rw [← instrLength_eq_formatLength] at hn
  have hfault := fetch_of_unserviced (s := s.setCalls calls) hfetch hn hread
  rw [hstep, executeFetched, hfault, andThen_fault, setCalls_cpu_pc]

/-- Settles O8: `execute` asks a hook that gives the listed answer, and only the answer counts. -/
theorem hookAnswersStandForAnyHook : Obligations.HookAnswersStandForAnyHook := by
  unfold Obligations.HookAnswersStandForAnyHook
  intro hook s u answer answers hnext hactive hhook hfetch hanswer
  obtain ⟨hstep, calls, rfl⟩ := hnext.step_eq_execute
  rw [hstep, execute, setCalls_cpu_active, setCalls_hookAnswers, hactive, hhook]
  exact executeWith_congr hactive hfetch hanswer.symm

end Sys2Proof.Safety
end

section
/-! PROOFS. The obligations of 40_data_transfer.md: MOV (R140-R142), the immediate loads (R143-R145), LDA, STA, LDAX and STAX
(R146, R147, R150, R151), LHLD and SHLD (R148, R149), XCHG (R152), and the moves of HL to SP and pc (R278, R321). -/

namespace Sys2Proof.Safety

open Sys2Proof.Machine

/-! ## Frames: an update keeps what the frame does not name -/

/-- The registers that a write of a pair writes (R33). -/
def pairHalves : Pair → List Reg
  | .bc => [.b, .c]
  | .de => [.d, .e]
  | .hl => [.h, .l]
  | .sp => []

section Frames

variable {f : Frame} {s u : State}

theorem Frame.keeps.refl : f.keeps s s := by simp [Frame.keeps]

theorem Frame.keeps.setReg {r : Reg} {v : Byte} (hr : r ∈ f.regs) (h : f.keeps s u) : f.keeps s (u.setReg r v) := by
  obtain ⟨hregs, hrest⟩ := h
  refine ⟨fun q hq => ?_, by simpa using hrest⟩
  have hne : q ≠ r := fun heq => hq (heq ▸ hr)
  rw [setReg_reg, if_neg hne, hregs q hq]

theorem Frame.keeps.setSp {v : Word} (hsp : f.sp = true) (h : f.keeps s u) : f.keeps s (u.setSp v) := by
  obtain ⟨hregs, -, hrest⟩ := h
  exact ⟨by simpa using hregs, by simp [hsp], by simpa using hrest⟩

theorem Frame.keeps.setPair {p : Pair} {v : Word} (hregs : pairHalves p ⊆ f.regs) (hsp : p = .sp → f.sp = true)
    (h : f.keeps s u) : f.keeps s (u.setPair p v) := by
  cases p with
  | bc => exact .setReg (hregs (by simp [pairHalves])) (.setReg (hregs (by simp [pairHalves])) h)
  | de => exact .setReg (hregs (by simp [pairHalves])) (.setReg (hregs (by simp [pairHalves])) h)
  | hl => exact .setReg (hregs (by simp [pairHalves])) (.setReg (hregs (by simp [pairHalves])) h)
  | sp => exact .setSp (hsp rfl) h

theorem Frame.keeps.setPc {v : Word} (hpc : f.pc = true) (h : f.keeps s u) : f.keeps s (u.setPc v) := by
  obtain ⟨hregs, hsp, -, hrest⟩ := h
  exact ⟨by simpa using hregs, hsp, by simp [hpc], by simpa using hrest⟩

theorem Frame.keeps.setMem {m : Memory} (hmem : f.mem = true) (h : f.keeps s u) : f.keeps s (u.setMem m) := by
  obtain ⟨hregs, hsp, hpc, hflags, hie, hactive, -, hrest⟩ := h
  exact ⟨by simpa using hregs, hsp, hpc, hflags, hie, hactive, by simp [hmem], hrest⟩

/-- What the call returned is no part of a frame. -/
theorem Frame.keeps.setResult {c : CallResult} (h : f.keeps s u) : f.keeps s (u.setResult c) := by
  simpa [Frame.keeps] using h

end Frames

/-! ## The shapes of a completion and of a bus fault -/

section Outcomes

variable {i : Instr} {s u : State} {n : Nat} {a : Word}

theorem Completes.of_finish {f : Frame} {post : State → Prop} (hexec : exec i s = finish n u) (hkeeps : f.keeps s u)
    (hpost : post (u.setResult (.cycles n))) : Completes i s n f post :=
  ⟨_, hexec, rfl, hkeeps.setResult, hpost⟩

/-- The access that ends the instruction comes first. -/
theorem BusFaults.of_andThen {α : Type} {x : Access} {o : Host.Outcome α Fault Refusal}
    {g : α → Host.Outcome State Fault Refusal} (hexec : exec i s = andThen o g) (ho : o = .fault (.busFault x)) :
    BusFaults i s x := by
  rw [BusFaults, hexec, ho, andThen_fault]

/-- A byte is read into a register. -/
theorem Completes.of_load {r : Reg} (hexec : exec i s = andThen (memRead1 a s) fun v => finish n (s.setReg r v))
    (hread : s.admits (.read a) = true) : Completes i s n { regs := [r] } fun t => t.reg r = s.byteAt a := by
  rw [memRead1_of_admits hread, andThen_next] at hexec
  exact .of_finish hexec (.setReg (by simp) .refl) (by simp)

theorem BusFaults.of_read {g : Byte → Host.Outcome State Fault Refusal} (hexec : exec i s = andThen (memRead1 a s) g)
    (hread : s.admits (.read a) = false) : BusFaults i s (.read a) :=
  .of_andThen hexec (memRead1_of_not_admits hread)

/-- A byte is stored. -/
theorem Completes.of_store {v : Byte} (hexec : exec i s = andThen (memWrite1 a v s) (finish n))
    (hwrite : s.admits (.write a v) = true) : Completes i s n { mem := true } fun t => StoresByte s t a v := by
  rw [memWrite1_eq_next.mpr ⟨hwrite, rfl⟩, andThen_next] at hexec
  exact .of_finish hexec (.setMem rfl .refl) (storesByte_setMem s s a v)

theorem BusFaults.of_write {v : Byte} {g : State → Host.Outcome State Fault Refusal}
    (hexec : exec i s = andThen (memWrite1 a v s) g) (hwrite : s.admits (.write a v) = false) :
    BusFaults i s (.write a v) :=
  .of_andThen hexec (memWrite1_eq_fault.mpr ⟨hwrite, rfl⟩)

theorem WordReadFaults.of_andThen {g : Word → Host.Outcome State Fault Refusal}
    (hexec : exec i s = andThen (memRead2 a s) g) : WordReadFaults i s a :=
  ⟨fun hlow => .of_andThen hexec (memRead2_eq_fault.mpr (.inl ⟨hlow, rfl⟩)),
    fun hlow hhigh => .of_andThen hexec (memRead2_eq_fault.mpr (.inr ⟨hlow, hhigh, rfl⟩))⟩

theorem WordWriteFaults.of_andThen {v : Word} {g : State → Host.Outcome State Fault Refusal}
    (hexec : exec i s = andThen (memWrite2 a v s) g) : WordWriteFaults i s a v := by
  rw [WordWriteFaults, ← lowByte_eq_ofNat, ← highByte_eq_ofNat]
  exact ⟨fun hlow => .of_andThen hexec (memWrite2_eq_fault.mpr (.inl ⟨hlow, rfl⟩)),
    fun hlow hhigh => .of_andThen hexec (memWrite2_eq_fault.mpr (.inr ⟨hlow, hhigh, rfl⟩))⟩

end Outcomes

/-! ## Encodings -/

/-- The operand bytes as the encoder writes them, low byte first (R106). -/
theorem operandBytes_eq (w : Word) : operandBytes w = [lowByte w, highByte w] := by
  rw [operandBytes, lowByte_eq_ofNat, highByte_eq_ofNat]

theorem encode_movRegReg (dst src : Reg) :
    encode (.movRegReg dst src) = [0x40 ||| (regCode dst <<< 3) ||| regCode src] := by
  cases dst <;> cases src <;> rfl

theorem encode_movRegMem (r : Reg) : encode (.movRegMem r) = [0x46 ||| (regCode r <<< 3)] := by cases r <;> rfl

theorem encode_movMemReg (r : Reg) : encode (.movMemReg r) = [0x70 ||| regCode r] := by cases r <;> rfl

theorem encode_mviReg (dst : Reg) (v : Byte) : encode (.mviReg dst v) = [0x06 ||| (regCode dst <<< 3), v] := by
  cases dst <;> rfl

theorem encode_lxi (p : Pair) (w : Word) : encode (.lxi p w) = (0x01 ||| (pairCode p <<< 4)) :: operandBytes w := by
  rw [operandBytes_eq]
  cases p <;> rfl

theorem encode_ldax (p : IndexPair) : encode (.ldax p) = [0x0A ||| (pairCode p.pair <<< 4)] := by cases p <;> rfl

theorem encode_stax (p : IndexPair) : encode (.stax p) = [0x02 ||| (pairCode p.pair <<< 4)] := by cases p <;> rfl

/-! ## Moves and immediate loads -/

/-- Settles O27: one register is written, with what the other held. -/
theorem moveRegisterToRegister : Obligations.MoveRegisterToRegister := by
  unfold Obligations.MoveRegisterToRegister
  intro dst src s
  exact ⟨encode_movRegReg dst src, .of_finish (exec_movRegReg s dst src) (.setReg (by simp) .refl) (by simp)⟩

/-- Settles O28: a load and a store at HL. -/
theorem moveBetweenRegisterAndMemory : Obligations.MoveBetweenRegisterAndMemory := by
  unfold Obligations.MoveBetweenRegisterAndMemory
  intro r s
  have hload := exec_movRegMem s r
  have hstore := exec_movMemReg s r
  exact ⟨encode_movRegMem r, encode_movMemReg r, .of_load hload, .of_read hload, .of_store hstore, .of_write hstore⟩

/-- LXI of any pair: its frame is the pair's halves, or SP (R145). -/
theorem completes_lxi (p : Pair) (w : Word) (s : State) :
    Completes (.lxi p w) s 10 { regs := pairHalves p, sp := decide (p = .sp) } fun t => t.pair p = w :=
  .of_finish (exec_lxi s p w) (.setPair (fun _ hr => hr) (by simp) .refl) (by simp)

/-- Settles O29: MVI writes one register or the byte at HL, LXI both halves of a pair or SP. -/
theorem immediateLoads : Obligations.ImmediateLoads := by
  unfold Obligations.ImmediateLoads
  intro dst v p w s
  have hstore : exec (.mviM v) s = andThen (memWrite1 s.hl v s) (finish 10) := rfl
  refine ⟨encode_mviReg dst v, rfl, encode_lxi p w, ?_, .of_store hstore, .of_write hstore, completes_lxi .bc w s,
    completes_lxi .de w s, completes_lxi .hl w s, completes_lxi .sp w s⟩
  exact .of_finish (exec_mviReg s dst v) (.setReg (by simp) .refl) (by simp)

/-! ## Direct and indirect loads and stores -/

/-- Settles O30: loads of A from the operand address and from a pair. -/
theorem accumulatorLoads : Obligations.AccumulatorLoads := by
  unfold Obligations.AccumulatorLoads
  intro w p s
  have hlda : exec (.lda w) s = loadA 13 w s := rfl
  have hldax := exec_ldax s p
  refine ⟨?_, encode_ldax p, .of_load hlda, .of_read hlda, .of_load hldax, .of_read hldax⟩
  rw [operandBytes_eq]
  rfl

/-- Settles O31: stores of A to the operand address and to that of a pair. -/
theorem accumulatorStores : Obligations.AccumulatorStores := by
  unfold Obligations.AccumulatorStores
  intro w p s
  have hsta : exec (.sta w) s = storeA 13 w s := rfl
  have hstax := exec_stax s p
  refine ⟨?_, encode_stax p, .of_store hsta, .of_write hsta, .of_store hstax, .of_write hstax⟩
  rw [operandBytes_eq]
  rfl

/-- Settles O32: one word read into HL, and HL stored as one word. -/
theorem hlDirectLoadAndStore : Obligations.HlDirectLoadAndStore := by
  unfold Obligations.HlDirectLoadAndStore
  intro w s
  have hlhld : exec (.lhld w) s = andThen (memRead2 w s) fun v => finish 16 (s.setPair .hl v) := rfl
  have hshld : exec (.shld w) s = andThen (memWrite2 w s.hl s) (finish 16) := rfl
  rw [operandBytes_eq]
  refine ⟨rfl, rfl, fun hread => ?_, .of_andThen hlhld, fun hwrite => ?_, .of_andThen hshld⟩
  · rw [memRead2_of_readableWord hread, andThen_next] at hlhld
    exact .of_finish hlhld (.setPair (by simp [pairHalves]) (by simp) .refl) (by simp)
  · rw [memWrite2_of_writableWord hwrite, andThen_next] at hshld
    exact .of_finish hshld (.setMem rfl .refl) (storesWord_setMem s s w s.hl)

/-! ## Exchange and moves of HL -/

/-- Settles O33: XCHG writes the halves of HL and DE, SPHL and PCHL one word. -/
theorem hlExchangeAndMoves : Obligations.HlExchangeAndMoves := by
  unfold Obligations.HlExchangeAndMoves
  intro s
  refine ⟨rfl, rfl, rfl, ?xchg, ?sphl, ?pchl⟩
  case xchg =>
    have hexec : exec .xchg s = finish 4 ((s.setPair .hl (s.pair .de)).setPair .de (s.pair .hl)) := rfl
    refine .of_finish hexec ?_ (by simp [State.pair])
    exact .setPair (by simp [pairHalves]) (by simp) (.setPair (by simp [pairHalves]) (by simp) .refl)
  case sphl => exact .of_finish (u := s.setSp s.hl) rfl (.setSp rfl .refl) rfl
  case pchl => exact .of_finish (u := s.setPc s.hl) rfl (.setPc rfl .refl) rfl

end Sys2Proof.Safety
end

section
/-! PROOFS. The obligations of 41_arithmetic.md: the accumulator group's sums and differences (R185-R196), INR and DCR
(R197-R200), INX, DCX and DAD (R201-R203), and DAA with its decimal sum (R204). -/

namespace Sys2Proof.Safety

open Sys2Proof.Machine

/-! ## The flag compute unit in numbers -/

theorem popcount_eq_length_filter (v : Byte) :
    popcount v = ((List.range 8).filter fun k => v.toNat.testBit k).length := by
  have hrange : List.range 8 = [0, 1, 2, 3, 4, 5, 6, 7] := rfl
  rw [← List.countP_eq_length_filter, hrange]
  simp only [List.countP_cons, List.countP_nil, popcount, BitVec.getLsbD, Bool.toNat, Bool.cond_eq_ite]
  omega

/-- The top bit of a word in plain arithmetic. -/
theorem getLsbD_top {w : Nat} (v : BitVec (w + 1)) : v.getLsbD w = true ↔ 2 ^ w ≤ v.toNat := by
  have hmsb : v.msb = v.getLsbD w := BitVec.msb_eq_getLsbD_last v
  rw [← hmsb, BitVec.msb_eq_decide, decide_eq_true_iff, Nat.add_sub_cancel]

theorem resultFlags_szp (v : Byte) (f : Flags) : ResultFlags v (szp v f) := by
  refine ⟨?zero, getLsbD_top v, ?parity⟩
  case zero => simp [szp, BitVec.toNat_eq]
  case parity => simp [szp, popcount_eq_length_filter]

theorem toNat_bit (b : Bool) : (bit b).toNat = b.toNat := by cases b <;> rfl

theorem toNat_lowDigit (v : Byte) : (v &&& 0x0F).toNat = v.toNat % 16 :=
  Nat.and_two_pow_sub_one_eq_mod v.toNat 4

section Add8

variable (a x : Byte) (c : Bool)

/-- The nine-bit sum of R181 loses nothing. -/
theorem toNat_nineBitSum :
    (a.setWidth 9 + x.setWidth 9 + (bit c).setWidth 9).toNat = a.toNat + x.toNat + c.toNat := by
  have ha := a.isLt
  have hx := x.isLt
  have hc := c.toNat_le
  simp only [BitVec.toNat_add, BitVec.toNat_setWidth, toNat_bit]
  omega

theorem toNat_add8 : (add8 a x c).1.toNat = (a.toNat + x.toNat + c.toNat) % 256 := by
  rw [add8, BitVec.toNat_setWidth, toNat_nineBitSum]

theorem add8_carry : (add8 a x c).2.1 = true ↔ 256 ≤ a.toNat + x.toNat + c.toNat := by
  rw [← toNat_nineBitSum]
  exact getLsbD_top _

theorem add8_halfCarry : (add8 a x c).2.2 = true ↔ 16 ≤ a.toNat % 16 + x.toNat % 16 + c.toNat := by
  rw [add8, decide_eq_true_iff, toNat_lowDigit, toNat_lowDigit, gt_iff_lt, Nat.lt_iff_add_one_le]

theorem isSum_add8 (f : Flags) : IsSum a.toNat x.toNat c.toNat (add8 a x c).1 (arithFlags (add8 a x c) f) :=
  ⟨toNat_add8 a x c, add8_carry a x c, add8_halfCarry a x c, resultFlags_szp _ _⟩

/-- The difference is the sum with the complement and the complemented borrow (R182). -/
theorem sub8_eq_add8_not (b : Bool) :
    sub8 a x b = ((add8 a (~~~x) !b).1, !(add8 a (~~~x) !b).2.1, (add8 a (~~~x) !b).2.2) := rfl

theorem isDifference_sub8 (b : Bool) (f : Flags) :
    IsDifference a.toNat x.toNat b.toNat (sub8 a x b).1 (arithFlags (sub8 a x b) f) := by
  have hx := x.isLt
  have hnot : (~~~x).toNat = 255 - x.toNat := BitVec.toNat_not
  have hb : (!b).toNat = 1 - b.toNat := by cases b <;> rfl
  have hb1 := b.toNat_le
  obtain ⟨hsum, hcy, hac, -⟩ := isSum_add8 a (~~~x) (!b) f
  rw [hnot, hb] at hsum hcy hac
  refine ⟨?_, ?_, ?_, resultFlags_szp _ _⟩
  · rw [sub8_eq_add8_not, hsum]
    omega
  · have hborrow : (arithFlags (sub8 a x b) f).cy = !(arithFlags (add8 a (~~~x) !b) f).cy := rfl
    rw [hborrow, Bool.not_eq_true', ← Bool.not_eq_true, hcy]
    omega
  · have hdigit : (arithFlags (sub8 a x b) f).ac = (arithFlags (add8 a (~~~x) !b) f).ac := rfl
    rw [hdigit, hac]
    omega

end Add8

/-! ## The accumulator group -/

theorem Frame.keeps.setFlags {f : Frame} {s u : State} {g : Flags} (hflags : f.flags = true) (h : f.keeps s u) :
    f.keeps s (u.setFlags g) := by
  obtain ⟨hregs, hsp, hpc, -, hrest⟩ := h
  exact ⟨by simpa using hregs, hsp, hpc, by simp [hflags], by simpa using hrest⟩

theorem keeps_withAlu (s : State) (op : AluOp) (x : Byte) :
    Frame.keeps { regs := [.a], flags := true } s (s.withAlu op x) :=
  .setFlags rfl (.setReg (by simp) .refl)

theorem encode_aluReg (op : AluOp) (r : Reg) :
    encode (.aluReg op r) = [0x80 ||| (aluCode op <<< 3) ||| regCode r] := by
  cases op <;> cases r <;> rfl

theorem encode_aluMem (op : AluOp) : encode (.aluMem op) = [0x86 ||| (aluCode op <<< 3)] := by cases op <;> rfl

/-- The seven clauses of the group follow from what `alu` computes: `post` is a relation of the new A and flags to the
state before and the operand. -/
theorem accumulatorForms_of_alu {op : AluOp} {imm : Byte} {regs : List Reg} (post : State → Byte → Byte → Flags → Prop)
    (himm : ∀ v, encode (.aluImm op v) = [imm, v])
    (hkeeps : ∀ s x, Frame.keeps { regs := regs, flags := true } s (s.withAlu op x))
    (halu : ∀ s x, post s x (alu op (s.reg .a) x s.cpu.flags).1 (alu op (s.reg .a) x s.cpu.flags).2) :
    Statements.AccumulatorForms op imm regs fun s x t => post s x (t.reg .a) t.cpu.flags := by
  intro r v s
  have hmem := exec_aluMem s op
  refine ⟨encode_aluReg op r, encode_aluMem op, himm v, ?register, fun hread => ?memory, .of_read hmem, ?immediate⟩
  case register => exact .of_finish (exec_aluReg s op r) (hkeeps s _) (halu s _)
  case memory =>
    rw [aluMem, readM, memRead1_of_admits hread, andThen_next] at hmem
    exact .of_finish hmem (hkeeps s _) (halu s _)
  case immediate => exact .of_finish (exec_aluImm s op v) (hkeeps s v) (halu s v)

/-- Settles O34: each form adds with `add8`, ADC and ACI with CY as the carry in. -/
theorem additionForms : Obligations.AdditionForms := by
  unfold Obligations.AdditionForms
  constructor
  · exact accumulatorForms_of_alu (fun s x r f => IsSum (s.reg .a).toNat x.toNat 0 r f) (fun _ => rfl)
      (fun s => keeps_withAlu s .add) fun s x => isSum_add8 (s.reg .a) x false s.cpu.flags
  · exact accumulatorForms_of_alu (fun s x r f => IsSum (s.reg .a).toNat x.toNat s.cpu.flags.cy.toNat r f) (fun _ => rfl)
      (fun s => keeps_withAlu s .adc) fun s x => isSum_add8 (s.reg .a) x s.cpu.flags.cy s.cpu.flags

/-- Settles O35: each form subtracts with `sub8`, SBB and SBI with CY as the borrow in. -/
theorem subtractionForms : Obligations.SubtractionForms := by
  unfold Obligations.SubtractionForms
  constructor
  · exact accumulatorForms_of_alu (fun s x r f => IsDifference (s.reg .a).toNat x.toNat 0 r f) (fun _ => rfl)
      (fun s => keeps_withAlu s .sub) fun s x => isDifference_sub8 (s.reg .a) x false s.cpu.flags
  · exact accumulatorForms_of_alu (fun s x r f => IsDifference (s.reg .a).toNat x.toNat s.cpu.flags.cy.toNat r f)
      (fun _ => rfl) (fun s => keeps_withAlu s .sbb) fun s x => isDifference_sub8 (s.reg .a) x s.cpu.flags.cy s.cpu.flags

/-! ## INR and DCR -/

/-- The flags of a counted byte `r`: AC by R183, CY kept. -/
def CountFlags (ac : Prop) (f : Flags) (r : Byte) (g : Flags) : Prop :=
  ResultFlags r g ∧ (g.ac = true ↔ ac) ∧ g.cy = f.cy

/-- `count` takes the byte `v` to the number `n`, under any flags. -/
def CountsTo (count : Byte → Flags → Byte × Flags) (v : Byte) (n : Nat) (ac : Prop) : Prop :=
  ∀ f, (count v f).1.toNat = n ∧ CountFlags ac f (count v f).1 (count v f).2

theorem increment_countsTo (v : Byte) : CountsTo increment v ((v.toNat + 1) % 256) (v.toNat % 16 = 15) := by
  refine fun f => ⟨BitVec.toNat_add v 1, resultFlags_szp _ _, ?_, rfl⟩
  have hac : (increment v f).2.ac = decide (v &&& 0x0F = 0x0F) := rfl
  rw [hac, decide_eq_true_iff, ← BitVec.toNat_inj, toNat_lowDigit]
  rfl

theorem decrement_countsTo (v : Byte) : CountsTo decrement v ((v.toNat + 255) % 256) (v.toNat % 16 ≠ 0) := by
  refine fun f => ⟨?_, resultFlags_szp _ _, ?_, rfl⟩
  · rw [Nat.add_comm]
    exact BitVec.toNat_sub v 1
  · have hac : (decrement v f).2.ac = decide (v &&& 0x0F ≠ 0x00) := rfl
    rw [hac, decide_eq_true_iff, ne_eq, ← BitVec.toNat_inj, toNat_lowDigit]
    rfl

theorem encode_inrReg (r : Reg) : encode (.inrReg r) = [0x04 ||| (regCode r <<< 3)] := by cases r <;> rfl

theorem encode_dcrReg (r : Reg) : encode (.dcrReg r) = [0x05 ||| (regCode r <<< 3)] := by cases r <;> rfl

section Counts

variable {i : Instr} {s : State} {count : Byte → Flags → Byte × Flags} {n : Nat} {ac : Prop}

theorem Completes.of_countReg {r : Reg} (hexec : exec i s = countReg count r s)
    (hcount : CountsTo count (s.reg r) n ac) :
    Completes i s 5 { regs := [r], flags := true } fun t =>
      (t.reg r).toNat = n ∧ CountFlags ac s.cpu.flags (t.reg r) t.cpu.flags :=
  .of_finish hexec (.setFlags rfl (.setReg (by simp) .refl)) (by simpa using hcount s.cpu.flags)

/-- With the read serviced, the write of the counted byte decides (R198, R200). -/
theorem countMem_of_read (hexec : exec i s = countMem count s) (hcount : CountsTo count (s.byteAt s.hl) n ac)
    (v : Byte) (hread : s.admits (.read s.hl) = true) (hv : v.toNat = n) :
    (s.admits (.write s.hl v) = true → Completes i s 10 { mem := true, flags := true } fun t =>
      StoresByte s t s.hl v ∧ CountFlags ac s.cpu.flags v t.cpu.flags) ∧
    (s.admits (.write s.hl v) = false → BusFaults i s (.write s.hl v)) := by
  obtain ⟨hbyte, hflags⟩ := hcount s.cpu.flags
  obtain rfl : v = (count (s.byteAt s.hl) s.cpu.flags).1 := BitVec.eq_of_toNat_eq (hv.trans hbyte.symm)
  rw [countMem, readM, memRead1_of_admits hread, andThen_next, writeM] at hexec
  refine ⟨fun hwrite => ?_, .of_write hexec⟩
  rw [memWrite1_eq_next.mpr ⟨hwrite, rfl⟩, andThen_next] at hexec
  exact .of_finish hexec (.setFlags rfl (.setMem rfl .refl)) ⟨storesByte_setMem s s s.hl _, hflags⟩

end Counts

/-- Settles O37: one register is counted. -/
theorem registerCounts : Obligations.RegisterCounts := by
  unfold Obligations.RegisterCounts
  intro r s
  exact ⟨encode_inrReg r, encode_dcrReg r, .of_countReg (exec_inrReg s r) (increment_countsTo _),
    .of_countReg (exec_dcrReg s r) (decrement_countsTo _)⟩

/-- Settles O38: the byte at HL is read, counted and written. -/
theorem memoryCounts : Obligations.MemoryCounts := by
  unfold Obligations.MemoryCounts
  intro s
  have hinr : exec .inrM s = countMem increment s := rfl
  have hdcr : exec .dcrM s = countMem decrement s := rfl
  exact ⟨rfl, rfl, fun hread => ⟨.of_read hinr hread, .of_read hdcr hread⟩,
    countMem_of_read hinr (increment_countsTo _), countMem_of_read hdcr (decrement_countsTo _)⟩

/-! ## INX, DCX and DAD -/

theorem encode_inx (p : Pair) : encode (.inx p) = [0x03 ||| (pairCode p <<< 4)] := by cases p <;> rfl

theorem encode_dcx (p : Pair) : encode (.dcx p) = [0x0B ||| (pairCode p <<< 4)] := by cases p <;> rfl

theorem encode_dad (p : Pair) : encode (.dad p) = [0x09 ||| (pairCode p <<< 4)] := by cases p <;> rfl

theorem pairFrame_regs (p : Pair) : (Statements.pairFrame p).regs = pairHalves p := by cases p <;> rfl

theorem pairFrame_keeps_setPair (p : Pair) (s : State) (v : Word) :
    (Statements.pairFrame p).keeps s (s.setPair p v) :=
  .setPair (by rw [pairFrame_regs]; exact fun _ hr => hr) (by rintro rfl; rfl) .refl

/-- Settles O39: one pair is written, with the word arithmetic of R201 and R202. -/
theorem pairCounts : Obligations.PairCounts := by
  unfold Obligations.PairCounts
  intro p s
  refine ⟨encode_inx p, encode_dcx p, ?inx, ?dcx⟩
  case inx =>
    refine .of_finish (exec_inx s p) (pairFrame_keeps_setPair p s _) ?_
    rw [setResult_pair, setPair_pair]
    exact BitVec.toNat_add _ 1
  case dcx =>
    refine .of_finish (exec_dcx s p) (pairFrame_keeps_setPair p s _) ?_
    rw [setResult_pair, setPair_pair, Nat.add_comm]
    exact BitVec.toNat_sub _ 1

section Add16

variable (x y : Word) (f : Flags)

/-- The 17-bit sum of R203 loses nothing. -/
theorem toNat_seventeenBitSum : (x.setWidth 17 + y.setWidth 17).toNat = x.toNat + y.toNat := by
  have hx := x.isLt
  have hy := y.isLt
  simp only [BitVec.toNat_add, BitVec.toNat_setWidth]
  omega

theorem toNat_add16 : (add16 x y f).1.toNat = (x.toNat + y.toNat) % 65536 := by
  rw [add16, BitVec.toNat_setWidth, toNat_seventeenBitSum]

theorem add16_carry : (add16 x y f).2.cy = true ↔ 65536 ≤ x.toNat + y.toNat := by
  rw [← toNat_seventeenBitSum]
  exact getLsbD_top _

end Add16

/-- Settles O40: HL and CY are those of `add16`. -/
theorem doubleAdd : Obligations.DoubleAdd := by
  unfold Obligations.DoubleAdd
  intro p s
  refine ⟨encode_dad p, .of_finish (exec_dad s p) ?frame ⟨?sum, add16_carry s.hl (s.pair p) s.cpu.flags, rfl⟩⟩
  case frame => exact .setFlags rfl (.setPair (by simp [pairHalves]) (by simp) .refl)
  case sum =>
    rw [setResult_hl, setFlags_hl, State.hl, setPair_pair]
    exact toNat_add16 s.hl (s.pair p) s.cpu.flags

/-! ## DAA -/

/-- What DAA adds for the low digit (R204). -/
def lowCorrection (a : Byte) (f : Flags) : Nat := if f.ac = true ∨ 9 < a.toNat % 16 then 6 else 0

/-- What DAA adds for the high digit (R204). -/
def highCorrection (a : Byte) (f : Flags) : Nat :=
  if f.cy = true ∨ 9 < a.toNat / 16 ∨ (9 ≤ a.toNat / 16 ∧ 9 < a.toNat % 16) then 96 else 0

/-- `r` and `g` are the decimal adjustment of `a` under the flags `f`. -/
def IsDecimalAdjust (a : Byte) (f : Flags) (r : Byte) (g : Flags) : Prop :=
  r.toNat = (a.toNat + lowCorrection a f + highCorrection a f) % 256 ∧
  (g.cy = true ↔ highCorrection a f = 96) ∧ (g.ac = true ↔ 16 ≤ a.toNat % 16 + lowCorrection a f) ∧
  ResultFlags r g

/-! The model's own tests and the byte it adds, tied to the numbers above. -/

/-- Does DAA add 0x06? -/
def adjustsLow (a : Byte) (f : Flags) : Bool := f.ac || decide (a &&& 0x0F > 9)

/-- Does DAA add 0x60? -/
def adjustsHigh (a : Byte) (f : Flags) : Bool :=
  f.cy || decide (a >>> 4 > 9) || (decide (a >>> 4 ≥ 9) && decide (a &&& 0x0F > 9))

/-- The byte that DAA adds. -/
def correction (a : Byte) (f : Flags) : Byte :=
  (if adjustsLow a f then 0x06 else 0x00) + (if adjustsHigh a f then 0x60 else 0x00)

section DecimalAdjust

variable (a : Byte) (f : Flags)

theorem decimalAdjust_eq :
    decimalAdjust a f = ((add8 a (correction a f) false).1, szp (add8 a (correction a f) false).1
      { f with ac := (add8 a (correction a f) false).2.2, cy := f.cy || adjustsHigh a f }) := rfl

theorem toNat_highDigit : (a >>> 4).toNat = a.toNat / 16 := Nat.shiftRight_eq_div_pow a.toNat 4

theorem lowDigit_gt : a &&& 0x0F > 9 ↔ 9 < a.toNat % 16 := by
  rw [gt_iff_lt, BitVec.lt_def, toNat_lowDigit]
  rfl

theorem highDigit_gt : a >>> 4 > 9 ↔ 9 < a.toNat / 16 := by
  rw [gt_iff_lt, BitVec.lt_def, toNat_highDigit]
  rfl

theorem highDigit_ge : a >>> 4 ≥ 9 ↔ 9 ≤ a.toNat / 16 := by
  rw [ge_iff_le, BitVec.le_def, toNat_highDigit]
  rfl

theorem lowCorrection_eq : lowCorrection a f = if adjustsLow a f then 6 else 0 := by
  simp only [lowCorrection, adjustsLow, lowDigit_gt, Bool.or_eq_true, decide_eq_true_eq]

theorem highCorrection_eq : highCorrection a f = if adjustsHigh a f then 96 else 0 := by
  simp only [highCorrection, adjustsHigh, lowDigit_gt, highDigit_gt, highDigit_ge, Bool.or_eq_true, Bool.and_eq_true,
    decide_eq_true_eq, or_assoc]

theorem toNat_correction : (correction a f).toNat = lowCorrection a f + highCorrection a f := by
  rw [correction, lowCorrection_eq, highCorrection_eq]
  cases adjustsLow a f <;> cases adjustsHigh a f <;> rfl

/-- A set CY is itself a reason for the high correction, so DAA never clears it. -/
theorem decimalAdjust_carry : (decimalAdjust a f).2.cy = adjustsHigh a f := by
  have hcy : (decimalAdjust a f).2.cy = (f.cy || adjustsHigh a f) := rfl
  rw [hcy, adjustsHigh, Bool.or_assoc f.cy, Bool.or_self_left]

theorem isDecimalAdjust_decimalAdjust : IsDecimalAdjust a f (decimalAdjust a f).1 (decimalAdjust a f).2 := by
  have hhigh := highCorrection_eq a f
  have hsum := toNat_add8 a (correction a f) false
  have hhalf := add8_halfCarry a (correction a f) false
  rw [toNat_correction, Bool.toNat_false, Nat.add_zero, ← Nat.add_assoc] at hsum
  rw [toNat_correction, Bool.toNat_false, Nat.add_zero] at hhalf
  refine ⟨hsum, ?carry, hhalf.trans ?half, resultFlags_szp _ _⟩
  case carry =>
    rw [decimalAdjust_carry, hhigh]
    cases adjustsHigh a f <;> decide
  case half =>
    have hlow : lowCorrection a f ≤ 6 := by rw [lowCorrection]; split <;> omega
    split at hhigh <;> rw [hhigh] <;> omega

end DecimalAdjust

/-- Settles O41: A and the flags are those of `decimalAdjust`. -/
theorem decimalAdjust : Obligations.DecimalAdjust := by
  unfold Obligations.DecimalAdjust
  intro s
  have hexec : exec .daa s = accumulatorOp Machine.decimalAdjust s := rfl
  exact ⟨rfl, .of_finish hexec (.setFlags rfl (.setReg (by simp) .refl))
    ⟨_, _, rfl, rfl, isDecimalAdjust_decimalAdjust (s.reg .a) s.cpu.flags⟩⟩

/-! ## The decimal sum of ADI or ACI and DAA -/

theorem Completes.post_of_exec {i : Instr} {s t : State} {n : Nat} {f : Frame} {post : State → Prop}
    (h : Completes i s n f post) (hexec : exec i s = .next t) : post t := by
  obtain ⟨u, hu, -, -, hpost⟩ := h
  obtain rfl : u = t := Host.Outcome.next.inj (hu.symm.trans hexec)
  exact hpost

/-- `r` and CY are the decimal sum `n`, its hundreds in CY. -/
def IsDecimalSum (n : Nat) (r : Byte) (f : Flags) : Prop :=
  IsBcd r ∧ bcdValue r = n % 100 ∧ (f.cy = true ↔ 100 ≤ n)

/-- The sum of the units of `a` and `x` and a carry. -/
def unitsSum (a x : Byte) (c : Nat) : Nat := a.toNat % 16 + x.toNat % 16 + c

/-- The sum of the tens of `a` and `x`, with the decimal carry of the units. -/
def tensSum (a x : Byte) (c : Nat) : Nat := a.toNat / 16 + x.toNat / 16 + unitsSum a x c / 10

/-- Six more makes a digit sum of ten or more carry at sixteen. -/
theorem digit_correction {d : Nat} (hd : d ≤ 19) : d + (if 10 ≤ d then 6 else 0) = 16 * (d / 10) + d % 10 := by
  split <;> omega

theorem bcdValue_sum (a x : Byte) (c : Nat) :
    bcdValue a + bcdValue x + c = 10 * tensSum a x c + unitsSum a x c % 10 := by
  unfold bcdValue tensSum unitsSum
  omega

theorem toNat_sum (a x : Byte) (c : Nat) :
    a.toNat + x.toNat + c + 16 * (unitsSum a x c / 10) = 16 * tensSum a x c + unitsSum a x c := by
  unfold tensSum unitsSum
  omega

section DecimalSum

variable {a x m r : Byte} {c : Nat} {f g : Flags} (ha : IsBcd a) (hx : IsBcd x) (hc : c ≤ 1)

include ha hx hc

theorem unitsSum_le : unitsSum a x c ≤ 19 := by
  unfold unitsSum
  unfold IsBcd at ha hx
  omega

theorem tensSum_le : tensSum a x c ≤ 19 := by
  have hunits := unitsSum_le ha hx hc
  unfold tensSum
  unfold IsBcd at ha hx
  omega

variable (hsum : IsSum a.toNat x.toNat c m f)

include hsum

theorem lowCorrection_of_isSum : lowCorrection m f = if 10 ≤ unitsSum a x c then 6 else 0 := by
  obtain ⟨hm, -, hac, -⟩ := hsum
  have hunits := unitsSum_le ha hx hc
  refine ite_congr (propext ?_) (fun _ => rfl) fun _ => rfl
  rw [hac, hm]
  unfold unitsSum at *
  omega

theorem highCorrection_of_isSum : highCorrection m f = 16 * if 10 ≤ tensSum a x c then 6 else 0 := by
  obtain ⟨hm, hcy, -, -⟩ := hsum
  have htens := tensSum_le ha hx hc
  have hnumber := toNat_sum a x c
  have hunits := unitsSum_le ha hx hc
  have hdigit : (16 * if 10 ≤ tensSum a x c then 6 else 0) = if 10 ≤ tensSum a x c then 96 else 0 := by split <;> rfl
  rw [highCorrection, hdigit]
  refine ite_congr (propext ?_) (fun _ => rfl) fun _ => rfl
  rw [hcy, hm]
  omega

/-- After the corrections the two digits are those of the decimal sum. -/
theorem toNat_of_isDecimalAdjust (hadjust : IsDecimalAdjust m f r g) :
    r.toNat = 16 * (tensSum a x c % 10) + unitsSum a x c % 10 := by
  have hunits := digit_correction (unitsSum_le ha hx hc)
  have htens := digit_correction (tensSum_le ha hx hc)
  have hnumber := toNat_sum a x c
  rw [← lowCorrection_of_isSum ha hx hc hsum] at hunits
  have hhigh := highCorrection_of_isSum ha hx hc hsum
  obtain ⟨hr, -⟩ := hadjust
  obtain ⟨hm, -⟩ := hsum
  omega

theorem isDecimalSum_of_isDecimalAdjust (hadjust : IsDecimalAdjust m f r g) :
    IsDecimalSum (bcdValue a + bcdValue x + c) r g := by
  have hr := toNat_of_isDecimalAdjust ha hx hc hsum hadjust
  have hhigh := highCorrection_of_isSum ha hx hc hsum
  have htens := tensSum_le ha hx hc
  obtain ⟨-, hcy, -⟩ := hadjust
  rw [IsDecimalSum, bcdValue_sum, IsBcd, bcdValue, hr, hcy, hhigh]
  refine ⟨by omega, by omega, ?_⟩
  split <;> omega

end DecimalSum

/-- Settles O42: ADI and ACI leave the binary sum (O34), and DAA corrects its digits (O41). -/
theorem decimalAdditionIsExact : Obligations.DecimalAdditionIsExact := by
  unfold Obligations.DecimalAdditionIsExact
  intro s t u x ha hx
  have adjusted (hdaa : exec .daa t = .next u) : IsDecimalAdjust (t.reg .a) t.cpu.flags (u.reg .a) u.cpu.flags := by
    obtain ⟨_, _, rfl, rfl, hadjust⟩ := (decimalAdjust t).2.post_of_exec hdaa
    exact hadjust
  obtain ⟨hadd, hadc⟩ := additionForms
  constructor
  · rintro ⟨hadi, hdaa⟩
    obtain ⟨-, -, -, -, -, -, hform⟩ := hadd .a x s
    have hdecimal := isDecimalSum_of_isDecimalAdjust ha hx (Nat.zero_le 1) (hform.post_of_exec hadi) (adjusted hdaa)
    rwa [Nat.add_zero] at hdecimal
  · rintro ⟨haci, hdaa⟩
    obtain ⟨-, -, -, -, -, -, hform⟩ := hadc .a x s
    exact isDecimalSum_of_isDecimalAdjust ha hx s.cpu.flags.cy.toNat_le (hform.post_of_exec haci) (adjusted hdaa)

end Sys2Proof.Safety
end

section
/-! PROOFS. The obligations of 42_logical.md: ANA, XRA and ORA (R231-R239), CMP (R240-R242), the rotates (R243-R246),
and CMA, CMC and STC (R247-R249). -/

namespace Sys2Proof.Safety

open Sys2Proof.Machine

/-! ## ANA, XRA and ORA -/

/-- `Statements.IsLogic` as a relation of the new A and flags to the state before and the operand. -/
def LogicPost (f : Bool → Bool → Bool) (s : State) (x r : Byte) (g : Flags) : Prop :=
  (∀ k, k < 8 → r.getLsbD k = f ((s.reg .a).getLsbD k) (x.getLsbD k)) ∧
  g.cy = false ∧ g.ac = false ∧ ResultFlags r g

theorem isLogic_eq_logicPost (f : Bool → Bool → Bool) :
    Statements.IsLogic f = fun s x t => LogicPost f s x (t.reg .a) t.cpu.flags := rfl

/-- The seven clauses of the group, for an operation that works bit by bit and clears CY and AC (R230). -/
theorem accumulatorForms_of_bitwise {op : AluOp} {imm : Byte} {f : Bool → Bool → Bool} (bitwise : Byte → Byte → Byte)
    (himm : ∀ v, encode (.aluImm op v) = [imm, v])
    (halu : ∀ a x g, alu op a x g = (bitwise a x, logicFlags (bitwise a x) g))
    (hbit : ∀ a x k, (bitwise a x).getLsbD k = f (a.getLsbD k) (x.getLsbD k)) :
    Statements.AccumulatorForms op imm [.a] (Statements.IsLogic f) := by
  rw [isLogic_eq_logicPost]
  refine accumulatorForms_of_alu (LogicPost f) himm (fun s => keeps_withAlu s op) fun s x => ?_
  rw [halu]
  exact ⟨fun k _ => hbit (s.reg .a) x k, rfl, rfl, resultFlags_szp _ _⟩

/-- Settles O43: the three operations are those of the bit vectors. -/
theorem logicalForms : Obligations.LogicalForms := by
  unfold Obligations.LogicalForms
  refine ⟨?ana, ?xra, ?ora⟩
  case ana =>
    exact accumulatorForms_of_bitwise (· &&& ·) (fun _ => rfl) (fun _ _ _ => rfl)
      fun _ _ _ => BitVec.getLsbD_and
  case xra =>
    exact accumulatorForms_of_bitwise (· ^^^ ·) (fun _ => rfl) (fun _ _ _ => rfl)
      fun _ _ _ => BitVec.getLsbD_xor
  case ora =>
    exact accumulatorForms_of_bitwise (· ||| ·) (fun _ => rfl) (fun _ _ _ => rfl)
      fun _ _ _ => BitVec.getLsbD_or

/-! ## CMP -/

theorem setReg_self (s : State) (r : Reg) : s.setReg r (s.reg r) = s := by cases r <;> rfl

/-- CMP writes the flags of the difference and no register. -/
theorem withAlu_cmp (s : State) (x : Byte) :
    s.withAlu .cmp x = s.setFlags (arithFlags (sub8 (s.reg .a) x false) s.cpu.flags) :=
  congrArg (State.setFlags · _) (setReg_self s .a)

/-- Settles O36: the difference that CMP drops is the one SUB keeps (O35). -/
theorem compareForms : Obligations.CompareForms := by
  unfold Obligations.CompareForms
  refine accumulatorForms_of_alu (fun s x _ g => ∃ r, IsDifference (s.reg .a).toNat x.toNat 0 r g) (fun _ => rfl)
    (fun s x => ?frame) fun s x => ⟨_, isDifference_sub8 (s.reg .a) x false s.cpu.flags⟩
  case frame =>
    rw [withAlu_cmp]
    exact .setFlags rfl .refl

/-! ## Rotates -/

/-- `rotate` takes A to the number `n`; CY is set as `out` says, and no other flag is written. -/
def RotatesTo (rotate : Byte → Flags → Byte × Flags) (a : Byte) (f : Flags) (n : Nat) (out : Prop) : Prop :=
  (rotate a f).1.toNat = n ∧ ((rotate a f).2.cy = true ↔ out) ∧
  (rotate a f).2 = { f with cy := (rotate a f).2.cy }

section Rotate

variable (a : Byte) (c : Bool) (f : Flags)

/-- A shift to the left leaves bit 0 free for the bit that enters. -/
theorem toNat_shiftLeft_or_bit : ((a <<< 1) ||| bit c).toNat = 2 * a.toNat % 256 + c.toNat := by
  have hshift : (a <<< 1).toNat = 2 ^ 1 * (a.toNat % 128) := by
    rw [BitVec.toNat_shiftLeft, Nat.shiftLeft_eq]
    omega
  rw [BitVec.toNat_or, hshift, toNat_bit, ← Nat.two_pow_add_eq_or_of_lt c.toNat_lt]
  omega

/-- A shift to the right leaves bit 7 free for the bit that enters. -/
theorem toNat_shiftRight_or_bit : ((a >>> 1) ||| (bit c <<< 7)).toNat = a.toNat / 2 + 128 * c.toNat := by
  have hhalf : a.toNat / 2 < 2 ^ 7 := Nat.div_lt_of_lt_mul a.isLt
  have hbit : (bit c <<< 7).toNat = 2 ^ 7 * c.toNat := by cases c <;> rfl
  rw [BitVec.toNat_or, hbit, BitVec.toNat_ushiftRight, Nat.shiftRight_eq_div_pow, Nat.pow_one, Nat.or_comm,
    ← Nat.two_pow_add_eq_or_of_lt hhalf, Nat.add_comm]

theorem toNat_getLsbD_seven : (a.getLsbD 7).toNat = a.toNat / 128 := by
  have ha := a.isLt
  rw [BitVec.getLsbD, Nat.toNat_testBit]
  omega

theorem toNat_getLsbD_zero : (a.getLsbD 0).toNat = a.toNat % 2 := by
  rw [BitVec.getLsbD, Nat.toNat_testBit, Nat.pow_zero, Nat.div_one]

theorem getLsbD_zero_iff : a.getLsbD 0 = true ↔ a.toNat % 2 = 1 := by
  rw [BitVec.getLsbD, Nat.testBit_zero, decide_eq_true_iff]

theorem rotateLeft_rotatesTo :
    RotatesTo rotateLeft a f (2 * a.toNat % 256 + a.toNat / 128) (128 ≤ a.toNat) := by
  have hrotated := toNat_shiftLeft_or_bit a (a.getLsbD 7)
  rw [toNat_getLsbD_seven] at hrotated
  exact ⟨hrotated, getLsbD_top a, rfl⟩

theorem rotateRight_rotatesTo :
    RotatesTo rotateRight a f (a.toNat / 2 + 128 * (a.toNat % 2)) (a.toNat % 2 = 1) := by
  have hrotated := toNat_shiftRight_or_bit a (a.getLsbD 0)
  rw [toNat_getLsbD_zero] at hrotated
  exact ⟨hrotated, getLsbD_zero_iff a, rfl⟩

theorem rotateLeftThroughCarry_rotatesTo :
    RotatesTo rotateLeftThroughCarry a f (2 * a.toNat % 256 + f.cy.toNat) (128 ≤ a.toNat) :=
  ⟨toNat_shiftLeft_or_bit a f.cy, getLsbD_top a, rfl⟩

theorem rotateRightThroughCarry_rotatesTo :
    RotatesTo rotateRightThroughCarry a f (a.toNat / 2 + 128 * f.cy.toNat) (a.toNat % 2 = 1) :=
  ⟨toNat_shiftRight_or_bit a f.cy, getLsbD_zero_iff a, rfl⟩

end Rotate

theorem Completes.of_rotate {i : Instr} {s : State} {rotate : Byte → Flags → Byte × Flags} {n : Nat} {out : Prop}
    (hexec : exec i s = accumulatorOp rotate s) (hrotate : RotatesTo rotate (s.reg .a) s.cpu.flags n out) :
    Completes i s 4 { regs := [.a], flags := true } fun t =>
      (t.reg .a).toNat = n ∧ (t.cpu.flags.cy = true ↔ out) ∧ t.cpu.flags = { s.cpu.flags with cy := t.cpu.flags.cy } :=
  .of_finish hexec (.setFlags rfl (.setReg (by simp) .refl)) hrotate

/-- Settles O44: A is shifted by one, and the free bit takes the bit rotated out or CY. -/
theorem rotates : Obligations.Rotates := by
  unfold Obligations.Rotates
  exact fun s => ⟨rfl, rfl, rfl, rfl, .of_rotate rfl (rotateLeft_rotatesTo _ _),
    .of_rotate rfl (rotateRight_rotatesTo _ _), .of_rotate rfl (rotateLeftThroughCarry_rotatesTo _ _),
    .of_rotate rfl (rotateRightThroughCarry_rotatesTo _ _)⟩

/-! ## CMA, CMC and STC -/

theorem Completes.of_setCarry {i : Instr} {s : State} {c : Bool} (hexec : exec i s = finish 4 (setCarry c s)) :
    Completes i s 4 { flags := true } fun t => t.cpu.flags = { s.cpu.flags with cy := c } :=
  .of_finish hexec (.setFlags rfl .refl) rfl

/-- Settles O45: CMA writes A alone, CMC and STC write CY alone. -/
theorem complementAndCarry : Obligations.ComplementAndCarry := by
  unfold Obligations.ComplementAndCarry
  intro s
  have hcma : exec .cma s = finish 4 (s.setReg .a (~~~(s.reg .a))) := rfl
  exact ⟨rfl, rfl, rfl, .of_finish hcma (.setReg (by simp) .refl) BitVec.toNat_not, .of_setCarry rfl, .of_setCarry rfl⟩

end Sys2Proof.Safety
end

section
/-! PROOFS. The obligations of 43_stack.md: push16 and pop16 (R270-R272), PUSH (R273, R274), POP (R275, R276) and XTHL (R277).
The flag byte in numbers (R41) comes first. -/

namespace Sys2Proof.Safety

open Sys2Proof.Machine

/-! ## The flag byte (R41) -/

theorem toNat_flagByte (f : Flags) :
    (flagByte f).toNat = 128 * f.s.toNat + 64 * f.z.toNat + 16 * f.ac.toNat + 4 * f.p.toNat + 2 + f.cy.toNat := by
  have hall : ∀ cy ac p s z : Bool, (flagByte ⟨cy, ac, p, s, z⟩).toNat =
      128 * s.toNat + 64 * z.toNat + 16 * ac.toNat + 4 * p.toNat + 2 + cy.toNat := by decide
  exact hall f.cy f.ac f.p f.s f.z

/-- No flag stands in a bit that a pop discards. -/
theorem flagsOfByte_flagByte (f : Flags) : flagsOfByte (flagByte f) = f := by
  have hall : ∀ cy ac p s z : Bool, flagsOfByte (flagByte ⟨cy, ac, p, s, z⟩) = ⟨cy, ac, p, s, z⟩ := by decide
  exact hall f.cy f.ac f.p f.s f.z

/-- The word that PUSH PSW pushes. -/
def psw (s : State) : Word := concat (s.reg .a) (flagByte s.cpu.flags)

theorem toNat_psw (s : State) : (psw s).toNat = pswValue s := by
  rw [psw, toNat_concat, toNat_flagByte, pswValue]
  omega

theorem ofNat_pswValue (s : State) : BitVec.ofNat 16 (pswValue s) = psw s := by
  rw [← toNat_psw, BitVec.ofNat_toNat, BitVec.setWidth_eq]

/-! ## push16 and pop16 (R270, R271) -/

/-- What a pop answers: the word at SP, and the state with SP moved up by 2. -/
def popped (s : State) : Word × State :=
  (concat (s.byteAt (s.cpu.sp + 1)) (s.byteAt s.cpu.sp), s.setSp (s.cpu.sp + 2))

section StackWord

variable {s t : State} {v : Word}

theorem push16_of_writableWord (h : WritableWord s (s.cpu.sp - 2) v) : push16 v s = .next (pushed s v) := by
  obtain ⟨hlow, hhigh⟩ := writableWord_iff.mp h
  exact push16_eq_next.mpr ⟨hlow, hhigh, rfl⟩

theorem pop16_of_readableWord (h : ReadableWord s s.cpu.sp) : pop16 s = .next (popped s) :=
  pop16_eq_next.mpr ⟨h.1, h.2, rfl⟩

theorem storesWord_pushed (s : State) (v : Word) : StoresWord s (pushed s v) (s.cpu.sp - 2) v.toNat :=
  storesWord_setMem s (s.setSp (s.cpu.sp - 2)) (s.cpu.sp - 2) v

theorem concat_byteAt_of_storesWord {a : Word} (h : StoresWord s t a v.toNat) :
    concat (t.byteAt (a + 1)) (t.byteAt a) = v := by
  obtain ⟨hlow, hhigh, -⟩ := h
  apply BitVec.eq_of_toNat_eq
  rw [toNat_concat, hlow, hhigh]
  omega

/-- Where a push has stored `v` and moved SP, a pop answers `v` and the old SP. -/
theorem popped_of_storesWord (hsp : t.cpu.sp = s.cpu.sp - 2) (hstore : StoresWord s t (s.cpu.sp - 2) v.toNat) :
    popped t = (v, t.setSp s.cpu.sp) := by
  rw [popped, hsp, concat_byteAt_of_storesWord hstore, BitVec.sub_add_cancel]

end StackWord

/-- Settles O26: the pushed word is the one at the new SP. -/
theorem popInvertsPush : Obligations.PopInvertsPush := by
  unfold Obligations.PopInvertsPush
  intro s v hwrite hread
  have hstore := storesWord_pushed s v
  have hpop : pop16 (pushed s v) = .next (popped (pushed s v)) := pop16_of_readableWord hread
  rw [popped_of_storesWord rfl hstore] at hpop
  exact ⟨pushed s v, push16_of_writableWord hwrite, rfl, hstore, _, hpop, rfl, rfl⟩

/-! ## The shapes of an instruction that pushes or pops first -/

section Shapes

variable {i : Instr} {s : State} {n : Nat} {v : Word}

theorem Completes.of_push (hexec : exec i s = andThen (push16 v s) (finish n))
    (hwrite : WritableWord s (s.cpu.sp - 2) v) :
    Completes i s n { sp := true, mem := true } fun t =>
      t.cpu.sp = s.cpu.sp - 2 ∧ StoresWord s t (s.cpu.sp - 2) v.toNat := by
  rw [push16_of_writableWord hwrite, andThen_next] at hexec
  exact .of_finish hexec (.setMem rfl (.setSp rfl .refl)) ⟨rfl, storesWord_pushed s v⟩

theorem WordWriteFaults.of_push {g : State → Host.Outcome State Fault Refusal}
    (hexec : exec i s = andThen (push16 v s) g) : WordWriteFaults i s (s.cpu.sp - 2) v := by
  rw [WordWriteFaults, ← lowByte_eq_ofNat, ← highByte_eq_ofNat]
  exact ⟨fun hlow => .of_andThen hexec (push16_eq_fault.mpr (.inl ⟨hlow, rfl⟩)),
    fun hlow hhigh => .of_andThen hexec (push16_eq_fault.mpr (.inr ⟨hlow, hhigh, rfl⟩))⟩

theorem Completes.of_pop {g : Word × State → State} {f : Frame} {post : State → Prop}
    (hexec : exec i s = andThen (pop16 s) fun r => finish n (g r)) (hread : ReadableWord s s.cpu.sp)
    (hkeeps : f.keeps s (g (popped s))) (hpost : post ((g (popped s)).setResult (.cycles n))) :
    Completes i s n f post := by
  rw [pop16_of_readableWord hread, andThen_next] at hexec
  exact .of_finish hexec hkeeps hpost

theorem WordReadFaults.of_pop {g : Word × State → Host.Outcome State Fault Refusal}
    (hexec : exec i s = andThen (pop16 s) g) : WordReadFaults i s s.cpu.sp :=
  ⟨fun hlow => .of_andThen hexec (pop16_eq_fault.mpr (.inl ⟨hlow, rfl⟩)),
    fun hlow hhigh => .of_andThen hexec (pop16_eq_fault.mpr (.inr ⟨hlow, hhigh, rfl⟩))⟩

end Shapes

/-! ## PUSH -/

theorem encode_push (p : StackPair) : encode (.push p) = [0xC5 ||| (pairCode p.pair <<< 4)] := by cases p <;> rfl

theorem exec_pushPsw (s : State) : exec .pushPsw s = andThen (push16 (psw s) s) (finish 11) := rfl

/-- Settles O46: PUSH pushes the pair or the PSW. -/
theorem pushes : Obligations.Pushes := by
  unfold Obligations.Pushes
  intro p s
  have hpair : exec (.push p) s = andThen (push16 (s.pair p.pair) s) (finish 11) := exec_push s p
  have hpsw := exec_pushPsw s
  rw [ofNat_pswValue, ← toNat_psw]
  exact ⟨encode_push p, rfl, .of_push hpair, .of_push hpair, .of_push hpsw, .of_push hpsw⟩

/-! ## POP -/

theorem encode_pop (p : StackPair) : encode (.pop p) = [0xC1 ||| (pairCode p.pair <<< 4)] := by cases p <;> rfl

/-- The state that POP PSW leaves, from what its pop answers (R276). -/
def loadPsw (r : Word × State) : State := (r.2.setReg .a (highByte r.1)).setFlags (flagsOfByte (lowByte r.1))

theorem exec_popPsw (s : State) : exec .popPsw s = andThen (pop16 s) fun r => finish 10 (loadPsw r) := rfl

/-- No pair that PUSH and POP name is SP. -/
theorem setPair_stackPair_sp (s : State) (p : StackPair) (v : Word) : (s.setPair p.pair v).cpu.sp = s.cpu.sp := by
  cases p <;> rfl

theorem completes_pop (p : StackPair) {s : State} (hread : ReadableWord s s.cpu.sp) :
    Completes (.pop p) s 10 { Statements.pairFrame p.pair with sp := true } fun t =>
      (t.pair p.pair).toNat = wordAt s s.cpu.sp ∧ t.cpu.sp = s.cpu.sp + 2 := by
  refine .of_pop (exec_pop s p) hread (.setPair ?_ (fun _ => rfl) (.setSp rfl .refl)) ⟨?_, ?_⟩
  · simp [pairFrame_regs]
  · rw [setResult_pair, setPair_pair, popped, toNat_concat_byteAt]
  · rw [setResult_cpu_sp, setPair_stackPair_sp, popped, setSp_cpu_sp]

theorem completes_popPsw {s : State} (hread : ReadableWord s s.cpu.sp) :
    Completes .popPsw s 10 { regs := [.a], flags := true, sp := true } fun t =>
      t.reg .a = s.byteAt (s.cpu.sp + 1) ∧ t.cpu.sp = s.cpu.sp + 2 ∧
      t.cpu.flags = flagsOfByte (s.byteAt s.cpu.sp) :=
  .of_pop (exec_popPsw s) hread (.setFlags rfl (.setReg (by simp) (.setSp rfl .refl))) (by simp [loadPsw, popped])

/-- Settles O47: POP loads the pair, or A and the flags, from the popped word. -/
theorem pops : Obligations.Pops := by
  unfold Obligations.Pops
  intro p s
  exact ⟨encode_pop p, rfl, fun hread => ⟨completes_pop p hread, completes_popPsw hread⟩, .of_pop (exec_pop s p),
    .of_pop (exec_popPsw s)⟩

/-! ## XTHL -/

/-- Settles O48: HL is stored where the word was read, and the word goes to HL. -/
theorem exchangeStackTop : Obligations.ExchangeStackTop := by
  unfold Obligations.ExchangeStackTop
  intro s
  have hexec : exec .xthl s = andThen (memRead2 s.cpu.sp s) fun v =>
      andThen (memWrite2 s.cpu.sp s.hl s) fun t => finish 18 (t.setPair .hl v) := rfl
  refine ⟨rfl, .of_andThen hexec, fun hread => ?_⟩
  rw [memRead2_of_readableWord hread, andThen_next] at hexec
  refine ⟨fun hwrite => ?_, .of_andThen hexec⟩
  rw [memWrite2_of_writableWord hwrite, andThen_next] at hexec
  refine .of_finish hexec (.setPair (by simp [pairHalves]) (by simp) (.setMem rfl .refl)) ⟨?_, ?_⟩
  · rw [State.hl, setResult_pair, setPair_pair, toNat_concat_byteAt]
  · simpa only [StoresWord, setResult_byteAt, setPair_byteAt] using storesWord_setMem s s s.cpu.sp s.hl

/-! ## PUSH, then POP -/

theorem setPair_self (s : State) (p : Pair) : s.setPair p (s.pair p) = s := by
  cases p with
  | sp => rfl
  | bc | de | hl => simp only [State.setPair, State.pair, highByte_concat, lowByte_concat, setReg_self]

/-- The pop after a push answers the pushed word, and the state before the push but for memory and the call's result. -/
theorem pop_after_push {s t u : State} {v : Word} {m n : Nat} {g : Word × State → State}
    (hpush : andThen (push16 v s) (finish m) = .next t) (hpop : andThen (pop16 t) (fun r => finish n (g r)) = .next u) :
    u = (g (v, (s.setMem t.mem).setResult (.cycles m))).setResult (.cycles n) := by
  obtain ⟨_, hpushed, hresult⟩ := andThen_eq_next.mp hpush
  obtain ⟨-, -, rfl⟩ := push16_eq_next.mp hpushed
  obtain rfl := finish_eq_next.mp hresult
  obtain ⟨r, hpopped, hfinish⟩ := andThen_eq_next.mp hpop
  obtain ⟨-, -, hr⟩ := pop16_eq_next.mp hpopped
  have hword : r = (v, ((pushed s v).setResult (.cycles m)).setSp s.cpu.sp) :=
    hr.symm.trans (popped_of_storesWord rfl (storesWord_pushed s v))
  rw [← finish_eq_next.mp hfinish, hword]
  rfl

/-- Settles O49: what the pop loads is what the pair, or A and the flags, held before the push. -/
theorem pushThenPopRestores : Obligations.PushThenPopRestores := by
  unfold Obligations.PushThenPopRestores
  refine fun p s t u => ⟨fun hpush hpop => ?pair, fun hpush hpop => ?psw⟩
  case pair =>
    rw [exec_push] at hpush
    rw [exec_pop] at hpop
    have hself := setPair_self ((s.setMem t.mem).setResult (.cycles 11)) p.pair
    rw [setResult_pair, setMem_pair] at hself
    rw [pop_after_push hpush hpop, hself]
    exact ⟨rfl, rfl⟩
  case psw =>
    rw [exec_pushPsw] at hpush
    rw [exec_popPsw] at hpop
    rw [pop_after_push hpush hpop, loadPsw, psw, highByte_concat, lowByte_concat, flagsOfByte_flagByte]
    exact ⟨rfl, rfl⟩

end Sys2Proof.Safety
end

section
/-! PROOFS. The obligations of 44_branch.md: jumps (R293-R301), calls (R302-R310), returns (R311-R319) and RST (R320). The
conditions (R290) and the two stack shapes that the branches share come first. -/

namespace Sys2Proof.Safety

open Sys2Proof.Machine

/-! ## Conditions (R290) -/

theorem testCond_iff (code : Cond) (f : Flags) : testCond code f = true ↔ CondHolds code f := by
  cases code with
  | nz | nc | po | p => exact .of_eq (Bool.not_eq_true' _)
  | z | c | pe | m => exact Iff.rfl

section Conditional

variable {code : Cond} {w : Word} {s : State}

theorem exec_jumpIf_taken (h : CondHolds code s.cpu.flags) : exec (.jumpIf code w) s = finish 10 (s.setPc w) := by
  rw [exec_jumpIf, jumpIf, if_pos ((testCond_iff _ _).mpr h)]

theorem exec_jumpIf_untaken (h : ¬ CondHolds code s.cpu.flags) : exec (.jumpIf code w) s = finish 10 s := by
  rw [exec_jumpIf, jumpIf, if_neg (mt (testCond_iff _ _).mp h)]

theorem exec_callIf_taken (h : CondHolds code s.cpu.flags) : exec (.callIf code w) s = callTo w s := by
  rw [exec_callIf, callIf, if_pos ((testCond_iff _ _).mpr h)]

theorem exec_callIf_untaken (h : ¬ CondHolds code s.cpu.flags) : exec (.callIf code w) s = finish 11 s := by
  rw [exec_callIf, callIf, if_neg (mt (testCond_iff _ _).mp h)]

theorem exec_retIf_taken (h : CondHolds code s.cpu.flags) :
    exec (.retIf code) s = andThen (returnFromStack s) (finish 11) := by
  rw [exec_retIf, retIf, if_pos ((testCond_iff _ _).mpr h)]

theorem exec_retIf_untaken (h : ¬ CondHolds code s.cpu.flags) : exec (.retIf code) s = finish 5 s := by
  rw [exec_retIf, retIf, if_neg (mt (testCond_iff _ _).mp h)]

end Conditional

/-! ## The shapes of a branch -/

section Shapes

variable {i : Instr} {s : State} {n : Nat} {w : Word}

theorem Completes.of_jump (hexec : exec i s = finish n (s.setPc w)) :
    Completes i s n { pc := true } fun t => t.cpu.pc = w :=
  .of_finish hexec (.setPc rfl .refl) rfl

/-- An untaken branch only returns its cycles. -/
theorem Completes.of_untaken (hexec : exec i s = finish n s) : Completes i s n {} fun _ => True :=
  .of_finish hexec .refl trivial

/-- `push16(pc); pc <- w`: the shape of calls and restarts. -/
theorem Completes.of_pushPc (hexec : exec i s = andThen (push16 s.cpu.pc s) fun t => finish n (t.setPc w))
    (hwrite : WritableWord s (s.cpu.sp - 2) s.cpu.pc) :
    Completes i s n { pc := true, sp := true, mem := true } fun t =>
      t.cpu.pc = w ∧ t.cpu.sp = s.cpu.sp - 2 ∧ StoresWord s t (s.cpu.sp - 2) s.cpu.pc.toNat := by
  rw [push16_of_writableWord hwrite, andThen_next] at hexec
  exact .of_finish hexec (.setPc rfl (.setMem rfl (.setSp rfl .refl))) ⟨rfl, rfl, storesWord_pushed s s.cpu.pc⟩

theorem andThen_returnFromStack (n : Nat) (s : State) :
    andThen (returnFromStack s) (finish n) = andThen (pop16 s) fun r => finish n (r.2.setPc r.1) := by
  rw [returnFromStack]
  cases pop16 s with
  | next r => rfl
  | fault r => rfl
  | refused r => rfl

/-- `pc <- pop16()`: the shape of returns. -/
theorem Completes.of_return (hexec : exec i s = andThen (returnFromStack s) (finish n))
    (hread : ReadableWord s s.cpu.sp) :
    Completes i s n { pc := true, sp := true } fun t =>
      t.cpu.pc.toNat = wordAt s s.cpu.sp ∧ t.cpu.sp = s.cpu.sp + 2 := by
  rw [andThen_returnFromStack] at hexec
  exact .of_pop hexec hread (.setPc rfl (.setSp rfl .refl)) ⟨toNat_concat_byteAt s s.cpu.sp, rfl⟩

theorem WordReadFaults.of_return (hexec : exec i s = andThen (returnFromStack s) (finish n)) :
    WordReadFaults i s s.cpu.sp :=
  .of_pop (hexec.trans (andThen_returnFromStack n s))

end Shapes

/-! ## Jumps -/

theorem encode_jumpIf (code : Cond) (w : Word) :
    encode (.jumpIf code w) = (0xC2 ||| (condCode code <<< 3)) :: operandBytes w := by
  rw [operandBytes_eq]
  cases code <;> rfl

theorem encode_jmp (w : Word) : encode (.jmp w) = 0xC3 :: operandBytes w := by
  rw [operandBytes_eq]
  rfl

/-- Settles O50: a taken jump writes pc, an untaken one nothing. -/
theorem jumps : Obligations.Jumps := by
  unfold Obligations.Jumps
  intro code w s
  exact ⟨encode_jmp w, encode_jumpIf code w, .of_jump rfl, fun htaken => .of_jump (exec_jumpIf_taken htaken),
    fun huntaken => .of_untaken (exec_jumpIf_untaken huntaken)⟩

/-! ## Calls -/

theorem encode_callIf (code : Cond) (w : Word) :
    encode (.callIf code w) = (0xC4 ||| (condCode code <<< 3)) :: operandBytes w := by
  rw [operandBytes_eq]
  cases code <;> rfl

theorem encode_call (w : Word) : encode (.call w) = 0xCD :: operandBytes w := by
  rw [operandBytes_eq]
  rfl

/-- Settles O51: CALL and a taken conditional call are `callTo`. -/
theorem calls : Obligations.Calls := by
  unfold Obligations.Calls
  intro code w s called
  have hcall : exec (.call w) s = callTo w s := rfl
  exact ⟨encode_call w, encode_callIf code w,
    fun hwrite => ⟨.of_pushPc hcall hwrite, fun htaken => .of_pushPc (exec_callIf_taken htaken) hwrite⟩,
    .of_push hcall, fun htaken => .of_push (exec_callIf_taken htaken),
    fun huntaken => .of_untaken (exec_callIf_untaken huntaken)⟩

/-! ## Returns -/

theorem encode_retIf (code : Cond) : encode (.retIf code) = [0xC0 ||| (condCode code <<< 3)] := by cases code <;> rfl

/-- Settles O52: RET and a taken conditional return are `returnFromStack`. -/
theorem returns : Obligations.Returns := by
  unfold Obligations.Returns
  intro code s returned
  have hret : exec .ret s = andThen (returnFromStack s) (finish 10) := rfl
  exact ⟨rfl, encode_retIf code,
    fun hread => ⟨.of_return hret hread, fun htaken => .of_return (exec_retIf_taken htaken) hread⟩,
    .of_return hret, fun htaken => .of_return (exec_retIf_taken htaken),
    fun huntaken => .of_untaken (exec_retIf_untaken huntaken)⟩

/-! ## Restarts -/

theorem encode_rst (n : BitVec 3) : encode (.rst n) = [0xC7 ||| (n.setWidth 8 <<< 3)] := by
  match n with
  | 0#3 | 1#3 | 2#3 | 3#3 | 4#3 | 5#3 | 6#3 | 7#3 => rfl

/-- The vector 8n does not wrap: it is at most 56. -/
theorem toNat_restartVector (n : BitVec 3) : (n.setWidth 16 * 8).toNat = 8 * n.toNat := by
  bv_omega

/-- Settles O53: a restart is a call of its vector. -/
theorem restarts : Obligations.Restarts := by
  unfold Obligations.Restarts
  intro n s
  have hexec : exec (.rst n) s = restart (n.setWidth 16) s := exec_rst s n
  refine ⟨encode_rst n, fun hwrite => ?_, .of_push hexec⟩
  obtain ⟨t, hnext, hcycles, hkeeps, hpc, hstack⟩ := Completes.of_pushPc hexec hwrite
  exact ⟨t, hnext, hcycles, hkeeps, by rw [hpc, toNat_restartVector], hstack⟩

end Sys2Proof.Safety
end

section
/-! PROOFS. The obligation of 45_io.md: IN and OUT (R350, R351), each one recorded port transaction (R75). The frame rule
of a recorded event comes first. -/

namespace Sys2Proof.Safety

open Sys2Proof.Machine

theorem Frame.keeps.addEvent {f : Frame} {s u : State} {e : PortEvent} (hhistory : f.history = true)
    (h : f.keeps s u) : f.keeps s (u.addEvent e) := by
  obtain ⟨hregs, hsp, hpc, hflags, hie, hactive, hmem, -, hrest⟩ := h
  exact ⟨by simpa using hregs, hsp, hpc, hflags, hie, hactive, hmem, by simp [hhistory], hrest⟩

/-- Settles O54: A is loaded after the answer is recorded, and OUT records A. -/
theorem portTransactions : Obligations.PortTransactions := by
  unfold Obligations.PortTransactions
  intro port s
  have hin : exec (.inPort port) s = andThen (portIn port s) fun r => finish 10 (r.2.setReg .a r.1) := rfl
  have hout : exec (.outPort port) s = andThen (portOut port (s.reg .a) s) (finish 10) := rfl
  refine ⟨rfl, rfl, fun hserviced => ?inCompletes, fun hrefused => ?inFaults, fun hserviced => ?outCompletes,
    fun hrefused => ?outFaults⟩
  case inCompletes =>
    rw [portIn_eq_next.mpr ⟨hserviced, rfl⟩, andThen_next] at hin
    exact .of_finish hin (.setReg (by simp) (.addEvent rfl .refl)) (by simp)
  case inFaults => exact .of_andThen hin (portIn_eq_fault.mpr ⟨hrefused, rfl⟩)
  case outCompletes =>
    rw [portOut_eq_next.mpr ⟨hserviced, rfl⟩, andThen_next] at hout
    exact .of_finish hout (.addEvent rfl .refl) (by simp)
  case outFaults => exact .of_andThen hout (portOut_eq_fault.mpr ⟨hrefused, rfl⟩)

end Sys2Proof.Safety
end

section
/-! PROOFS. The obligation of 46_control.md: EI, DI, HLT and NOP (R360-R363). The frame rules of `ie` and `active` and the
two cases of HLT come first. -/

namespace Sys2Proof.Safety

open Sys2Proof.Machine

section Control

variable {f : Frame} {s u : State} {v : Bool}

theorem Frame.keeps.setIe (hie : f.ie = true) (h : f.keeps s u) : f.keeps s (u.setIe v) := by
  obtain ⟨hregs, hsp, hpc, hflags, -, hrest⟩ := h
  exact ⟨by simpa using hregs, hsp, hpc, hflags, by simp [hie], hrest⟩

theorem Frame.keeps.setActive (hactive : f.active = true) (h : f.keeps s u) : f.keeps s (u.setActive v) := by
  obtain ⟨hregs, hsp, hpc, hflags, hie, -, hrest⟩ := h
  exact ⟨by simpa using hregs, hsp, hpc, hflags, hie, by simp [hactive], hrest⟩

/-- With interrupts disabled, nothing can wake the core: HLT halts it. -/
theorem exec_hlt_of_ie_false (h : s.cpu.ie = false) : exec .hlt s = finish 7 (s.setActive false) := by
  change execHlt s = _
  rw [execHlt, h, if_neg Bool.false_ne_true]

theorem exec_hlt_of_ie_true (h : s.cpu.ie = true) : exec .hlt s = finish 7 s := by
  change execHlt s = _
  rw [execHlt, if_pos h]

/-- EI and DI differ only in the value they write. -/
theorem Completes.of_setIe {i : Instr} {n : Nat} (hexec : exec i s = finish n (s.setIe v)) :
    Completes i s n { ie := true } fun t => t.cpu.ie = v :=
  .of_finish hexec (.setIe rfl .refl) rfl

end Control

/-- Settles O55: EI and DI write IE, HLT writes `active` exactly when IE = 0, and NOP writes nothing. -/
theorem controlInstructions : Obligations.ControlInstructions := by
  unfold Obligations.ControlInstructions
  intro s
  have hei : exec .ei s = finish 4 (s.setIe true) := rfl
  have hdi : exec .di s = finish 4 (s.setIe false) := rfl
  have hnop : exec .nop s = finish 4 s := rfl
  exact ⟨rfl, rfl, rfl, rfl, .of_setIe hei, .of_setIe hdi,
    fun hdisabled => .of_finish (exec_hlt_of_ie_false hdisabled) (.setActive rfl .refl) rfl,
    fun henabled => .of_finish (exec_hlt_of_ie_true henabled) .refl trivial,
    .of_finish hnop .refl trivial⟩

end Sys2Proof.Safety
end

section
/-! PROOFS. The obligations of 60_exceptions.md: the undocumented bytes (R381), the halted core (R380), interrupts and the
reset call (R385-R388, R390), and the bus faults as the only stops of a documented instruction (R382, R383). -/

namespace Sys2Proof.Safety

open Sys2Proof.Machine

/-! ## Undocumented bytes and the halted core (R380, R381) -/

section Undocumented

variable {op : Byte} {s : State}

/-- Each of the twelve bytes is the whole encoding of a row that stops with it. -/
theorem exists_undocumented_row (hop : op ∈ undocumentedOpcodes) :
    ∃ i, i.documented = false ∧ encode i = [op] ∧ ∀ s, exec i s = .fault (.illegalOpcode s.cpu.pc op) := by
  have hi := decodeOpcode_undocumented hop 0 0
  obtain ⟨-, hencode, -⟩ := row_undocumented hi
  have hexec := exec_undocumented hi
  rw [opcodeOf_decodeOpcode] at hencode hexec
  exact ⟨_, hi, hencode, hexec⟩

theorem executeFetched_undocumented (hop : s.byteAt s.cpu.pc ∈ undocumentedOpcodes)
    (hread : s.admits (.read s.cpu.pc) = true) :
    executeFetched s = .fault (.illegalOpcode s.cpu.pc (s.byteAt s.cpu.pc)) := by
  obtain ⟨i, hi, hencode, hexec⟩ := exists_undocumented_row hop
  have hbytes : encode i ++ [s.byteAt (s.cpu.pc + 1), s.byteAt (s.cpu.pc + 2)] = bytesAtPc s 3 := by
    rw [hencode, bytesAtPc_three, List.singleton_append]
  have hfetchable : Fetchable s (encode i).length := by
    rw [hencode]
    intro k hk
    obtain rfl : k = 0 := Nat.lt_one_iff.mp hk
    rwa [BitVec.add_zero]
  have hdocumented : ¬ i.documented = true := by simp [hi]
  rw [executeFetched, fetch_of_encode_append hbytes hfetchable, andThen_next, if_neg hdocumented, hexec]

theorem executeReplacement_undocumented {more : List Byte} (hop : op ∈ undocumentedOpcodes)
    (hlength : more.length ≤ 3) : executeReplacement op more s = .fault (.illegalOpcode s.cpu.pc op) := by
  obtain ⟨i, -, hencode, hexec⟩ := exists_undocumented_row hop
  have hdecode := decodeInvertsEncode i more
  rw [hencode, List.singleton_append] at hdecode
  rw [executeReplacement_of_decode hlength hdecode, hexec]

/-- An active core takes the hook's next answer (log 3), and a replacement is run in place of memory's bytes. -/
theorem execute_of_replacement {more : List Byte} {answers : List (List Byte)} (hactive : s.cpu.active = true)
    (hhook : s.hookAnswers = some ((op :: more) :: answers)) (hfetch : Fetchable s 4) :
    execute s = executeReplacement op more (s.setHookAnswers (some answers)) := by
  rw [execute, hactive, hhook]
  exact executeWith_replacement (s := s.setHookAnswers (some answers)) hactive hfetch rfl

end Undocumented

/-- Settles O9: fetched or a replacement's first, the byte is a whole row, and the row stops with it. -/
theorem undocumentedByteFaultsTheStep : Obligations.UndocumentedByteFaultsTheStep := by
  unfold Obligations.UndocumentedByteFaultsTheStep
  refine fun s u op hop hnext hactive => ⟨fun hhook hbyte hread => ?fetched,
    fun more answers hhook hlength hfetch => ?replaced⟩
  case fetched =>
    subst hbyte
    obtain ⟨hstep, calls, rfl⟩ := hnext.step_eq_executeFetched hactive hhook
    exact hstep.trans (executeFetched_undocumented (s := s.setCalls calls) hop hread)
  case replaced =>
    obtain ⟨hstep, calls, rfl⟩ := hnext.step_eq_execute
    have hreplaced := execute_of_replacement (s := s.setCalls calls) hactive hhook hfetch
    exact hstep.trans (hreplaced.trans (executeReplacement_undocumented hop hlength))

/-- Settles O11: the step is `execute`, and that only reports. -/
theorem haltedExecuteOnlyReports : Obligations.HaltedExecuteOnlyReports := by
  unfold Obligations.HaltedExecuteOnlyReports
  intro s u hnext hhalted
  obtain ⟨hstep, calls, rfl⟩ := hnext.step_eq_execute
  exact hstep.trans (execute_halted hhalted)

/-! ## The restart codes (R387, R388) -/

/-- The opcodes of RST 0 to RST 7. -/
def restartCodes : List Byte := [0xC7, 0xCF, 0xD7, 0xDF, 0xE7, 0xEF, 0xF7, 0xFF]

theorem isRestartCode_iff_mem : ∀ code, isRestartCode code = true ↔ code ∈ restartCodes := by decide

/-- The code that `reset` computes is that of RST `vector`. -/
theorem restartCodes_getD :
    ∀ vector < 8, 0xC7 ||| (BitVec.ofNat 8 vector <<< 3) = restartCodes.getD vector 0 := by decide

/-- Bits 5:3 of the code of RST n hold n, so `code & 0x38` is 8n. -/
theorem restartCode_enters : ∀ n < 8, isRestartCode (BitVec.ofNat 8 (0xC7 + 8 * n)) = true ∧
    ((BitVec.ofNat 8 (0xC7 + 8 * n) &&& 0x38).setWidth 16).toNat = 8 * n := by decide

/-! ## Interrupts (R385-R387, R390) -/

/-- The state that an accepted interrupt leaves: IE off, the core active, pc pushed and pc at the vector (R386). -/
def interrupted (code : Byte) (s : State) : State :=
  ((pushed ((s.setIe false).setActive true) s.cpu.pc).setPc ((code &&& 0x38).setWidth 16)).setResult .interruptAccepted

@[simp] theorem interrupted_cpu_ie (code : Byte) (s : State) : (interrupted code s).cpu.ie = false := rfl

section Interrupts

variable {code : Byte} {s t : State}

theorem interrupt_eq_refused {q : Refusal} :
    interrupt code s = .refused q ↔ s.cpu.ie = true ∧ isRestartCode code = false ∧ .nonRestartCode code = q := by
  unfold interrupt
  cases s.cpu.ie <;> cases isRestartCode code <;> simp [andThen_eq_refused]

/-- With IE = 1 an interrupt is accepted exactly for a restart code whose push the board services. -/
theorem interrupt_eq_next_of_ie (hie : s.cpu.ie = true) :
    interrupt code s = .next t ↔
      isRestartCode code = true ∧ WritableWord s (s.cpu.sp - 2) s.cpu.pc ∧ interrupted code s = t := by
  rw [interrupt_eq_next, hie, writableWord_iff]
  constructor
  · rintro (⟨⟨⟩, -⟩ | ⟨-, hcode, u, hu, rfl⟩)
    obtain ⟨hlow, hhigh, rfl⟩ := takeInterrupt_eq_next.mp hu
    exact ⟨hcode, ⟨hlow, hhigh⟩, rfl⟩
  · rintro ⟨hcode, ⟨hlow, hhigh⟩, rfl⟩
    exact .inr ⟨rfl, hcode, _, takeInterrupt_eq_next.mpr ⟨hlow, hhigh, rfl⟩, rfl⟩

theorem storesWord_interrupted (code : Byte) (s : State) :
    StoresWord s (interrupted code s) (s.cpu.sp - 2) s.cpu.pc.toNat :=
  storesWord_pushed s s.cpu.pc

theorem keeps_interrupted (code : Byte) (s : State) :
    Frame.keeps { ie := true, active := true, pc := true, sp := true, mem := true } s (interrupted code s) :=
  .setResult (.setPc rfl (.setMem rfl (.setSp rfl (.setActive rfl (.setIe rfl .refl)))))

end Interrupts

/-- Settles O14: a restart code is accepted, and the state is `interrupted`. -/
theorem acceptedInterruptEntersTheVector : Obligations.AcceptedInterruptEntersTheVector := by
  unfold Obligations.AcceptedInterruptEntersTheVector
  intro s n hn hie hwrite
  obtain ⟨hcode, hvector⟩ := restartCode_enters n hn
  exact ⟨_, (interrupt_eq_next_of_ie hie).mpr ⟨hcode, hwrite, rfl⟩, rfl, rfl, rfl, hvector, rfl,
    storesWord_interrupted _ s, keeps_interrupted _ s⟩

/-- Settles O17: the word that RET pops is the one the interrupt pushed. -/
theorem interruptThenReturnResumes : Obligations.InterruptThenReturnResumes := by
  unfold Obligations.InterruptThenReturnResumes
  intro s t code hie hinterrupt hread
  obtain ⟨-, -, rfl⟩ := (interrupt_eq_next_of_ie hie).mp hinterrupt
  obtain ⟨hregs, -, -, hflags, -⟩ := keeps_interrupted code s
  have hret : exec .ret (interrupted code s) =
      andThen (pop16 (interrupted code s)) fun r => finish 10 (r.2.setPc r.1) := andThen_returnFromStack 10 _
  rw [pop16_of_readableWord hread, popped_of_storesWord rfl (storesWord_interrupted code s), andThen_next] at hret
  exact ⟨_, hret, by simp, by simp, by simpa using hflags rfl, fun r => by simpa using hregs r, by simp⟩

/-- Settles O15: IE is tested before the code. -/
theorem interruptsAreMaskedByIeThenByCode : Obligations.InterruptsAreMaskedByIeThenByCode := by
  unfold Obligations.InterruptsAreMaskedByIeThenByCode
  refine fun s code => ⟨fun hie => interrupt_eq_next.mpr (.inl ⟨hie, rfl⟩), fun hie => ?_⟩
  rw [interrupt_eq_refused, ← Bool.not_eq_true, isRestartCode_iff_mem]
  exact ⟨fun ⟨_, hcode, _⟩ => hcode, fun hcode => ⟨hie, hcode, rfl⟩⟩

/-- Settles O16: the code computed from the vector is the one listed. -/
theorem resetDelegatesToInterrupt : Obligations.ResetDelegatesToInterrupt := by
  unfold Obligations.ResetDelegatesToInterrupt
  refine fun s vector => ⟨fun h => if_neg (Nat.not_lt.mpr h), fun h => ?_⟩
  rw [resetVector, if_pos h, restartCodes_getD vector h]
  rfl

/-! ## The only stops of a documented instruction (R382, R383) -/

/-- `o` is a value, or the bus fault of an access that the board of `s` does not service. -/
def StopsOnlyOnBus {α : Type} (s : State) (o : Host.Outcome α Fault Refusal) : Prop :=
  (∃ x, o = .next x) ∨ ∃ x, s.admits x = false ∧ o = .fault (.busFault x)

section Stops

variable {α β : Type} {s : State}

theorem StopsOnlyOnBus.finish {n : Nat} {u : State} : StopsOnlyOnBus s (finish n u) := .inl ⟨_, rfl⟩

theorem StopsOnlyOnBus.andThen {o : Host.Outcome α Fault Refusal} {f : α → Host.Outcome β Fault Refusal}
    (ho : StopsOnlyOnBus s o) (hf : ∀ x, o = .next x → StopsOnlyOnBus s (f x)) :
    StopsOnlyOnBus s (andThen o f) := by
  obtain ⟨x, rfl⟩ | ⟨x, hx, rfl⟩ := ho
  · exact hf x rfl
  · exact .inr ⟨x, hx, rfl⟩

/-- The access is the instruction's last. -/
theorem StopsOnlyOnBus.andThen_finish {o : Host.Outcome α Fault Refusal} {n : Nat} {g : α → State}
    (ho : StopsOnlyOnBus s o) : StopsOnlyOnBus s (Machine.andThen o fun x => Machine.finish n (g x)) :=
  ho.andThen fun _ _ => .finish

/-! BUS_ADMITS never changes (log 5), so an update of the core or of memory before an access does not matter. -/

theorem stopsOnlyOnBus_memRead1 (a : Word) (s : State) : StopsOnlyOnBus s (memRead1 a s) := by
  cases h : s.admits (.read a) with
  | true => exact .inl ⟨_, memRead1_of_admits h⟩
  | false => exact .inr ⟨_, h, memRead1_of_not_admits h⟩

theorem stopsOnlyOnBus_memWrite1 (a : Word) (v : Byte) (s : State) : StopsOnlyOnBus s (memWrite1 a v s) := by
  cases h : s.admits (.write a v) with
  | true => exact .inl ⟨_, memWrite1_eq_next.mpr ⟨h, rfl⟩⟩
  | false => exact .inr ⟨_, h, memWrite1_eq_fault.mpr ⟨h, rfl⟩⟩

theorem stopsOnlyOnBus_memRead2 (a : Word) (s : State) : StopsOnlyOnBus s (memRead2 a s) :=
  (stopsOnlyOnBus_memRead1 a s).andThen fun _ _ =>
    (stopsOnlyOnBus_memRead1 (a + 1) s).andThen fun _ _ => .inl ⟨_, rfl⟩

theorem stopsOnlyOnBus_memWrite2 (a v : Word) (s : State) : StopsOnlyOnBus s (memWrite2 a v s) := by
  refine (stopsOnlyOnBus_memWrite1 a (lowByte v) s).andThen fun t ht => ?_
  obtain ⟨-, rfl⟩ := memWrite1_eq_next.mp ht
  exact stopsOnlyOnBus_memWrite1 (a + 1) (highByte v) (s.setMem _)

theorem stopsOnlyOnBus_push16 (v : Word) (s : State) : StopsOnlyOnBus s (push16 v s) :=
  stopsOnlyOnBus_memWrite2 (s.cpu.sp - 2) v (s.setSp (s.cpu.sp - 2))

theorem stopsOnlyOnBus_pop16 (s : State) : StopsOnlyOnBus s (pop16 s) :=
  (stopsOnlyOnBus_memRead2 s.cpu.sp s).andThen fun _ _ => .inl ⟨_, rfl⟩

theorem stopsOnlyOnBus_returnFromStack (s : State) : StopsOnlyOnBus s (returnFromStack s) :=
  (stopsOnlyOnBus_pop16 s).andThen fun _ _ => .inl ⟨_, rfl⟩

theorem stopsOnlyOnBus_portIn (p : Byte) (s : State) : StopsOnlyOnBus s (portIn p s) := by
  cases h : s.admits (.input p) with
  | true => exact .inl ⟨_, portIn_eq_next.mpr ⟨h, rfl⟩⟩
  | false => exact .inr ⟨_, h, portIn_eq_fault.mpr ⟨h, rfl⟩⟩

theorem stopsOnlyOnBus_portOut (p v : Byte) (s : State) : StopsOnlyOnBus s (portOut p v s) := by
  cases h : s.admits (.output p v) with
  | true => exact .inl ⟨_, portOut_eq_next.mpr ⟨h, rfl⟩⟩
  | false => exact .inr ⟨_, h, portOut_eq_fault.mpr ⟨h, rfl⟩⟩

/-- INR and DCR of M: the read, then the store. -/
theorem stopsOnlyOnBus_countMem (f : Byte → Flags → Byte × Flags) (s : State) : StopsOnlyOnBus s (countMem f s) :=
  (stopsOnlyOnBus_memRead1 s.hl s).andThen fun _ _ => (stopsOnlyOnBus_memWrite1 s.hl _ s).andThen_finish

theorem stopsOnlyOnBus_callTo (w : Word) (s : State) : StopsOnlyOnBus s (callTo w s) :=
  (stopsOnlyOnBus_push16 s.cpu.pc s).andThen_finish

/-- A board that services every access stops nothing. -/
theorem StopsOnlyOnBus.completes {o : Host.Outcome α Fault Refusal} (h : StopsOnlyOnBus s o) (hs : AllServiced s) :
    ∃ x, o = .next x := by
  refine h.resolve_right fun ⟨x, hx, _⟩ => ?_
  rw [State.admits, hs] at hx
  exact absurd hx (by simp)

end Stops

/-- An instruction is a sequence of the accesses above, and then returns its cycles. -/
theorem exec_stopsOnlyOnBus {i : Instr} (s : State) (hi : i.documented = true) : StopsOnlyOnBus s (exec i s) := by
  induction i using Instr.byFamily with
  | movRegReg dst src =>
    rw [exec_movRegReg]
    exact .finish
  | movRegMem dst =>
    rw [exec_movRegMem]
    exact (stopsOnlyOnBus_memRead1 s.hl s).andThen_finish
  | movMemReg src =>
    rw [exec_movMemReg]
    exact (stopsOnlyOnBus_memWrite1 s.hl (s.reg src) s).andThen_finish
  | mviReg dst v =>
    rw [exec_mviReg]
    exact .finish
  | lxi p w =>
    rw [exec_lxi]
    exact .finish
  | ldax p =>
    rw [exec_ldax]
    exact (stopsOnlyOnBus_memRead1 (s.pair p.pair) s).andThen_finish
  | stax p =>
    rw [exec_stax]
    exact (stopsOnlyOnBus_memWrite1 (s.pair p.pair) (s.reg .a) s).andThen_finish
  | aluReg op r =>
    rw [exec_aluReg]
    exact .finish
  | aluMem op =>
    rw [exec_aluMem]
    exact (stopsOnlyOnBus_memRead1 s.hl s).andThen_finish
  | aluImm op v =>
    rw [exec_aluImm]
    exact .finish
  | inrReg r =>
    rw [exec_inrReg]
    exact .finish
  | dcrReg r =>
    rw [exec_dcrReg]
    exact .finish
  | inx p =>
    rw [exec_inx]
    exact .finish
  | dcx p =>
    rw [exec_dcx]
    exact .finish
  | dad p =>
    rw [exec_dad]
    exact .finish
  | push p =>
    rw [exec_push]
    exact (stopsOnlyOnBus_push16 (s.pair p.pair) s).andThen_finish
  | pop p =>
    rw [exec_pop]
    exact (stopsOnlyOnBus_pop16 s).andThen_finish
  | jumpIf code w =>
    rw [exec_jumpIf, jumpIf]
    split
    · exact .finish
    · exact .finish
  | callIf code w =>
    rw [exec_callIf, callIf]
    split
    · exact stopsOnlyOnBus_callTo w s
    · exact .finish
  | retIf code =>
    rw [exec_retIf, retIf]
    split
    · exact (stopsOnlyOnBus_returnFromStack s).andThen_finish
    · exact .finish
  | rst n =>
    rw [exec_rst]
    exact (stopsOnlyOnBus_push16 s.cpu.pc s).andThen_finish
  | shld a => exact (stopsOnlyOnBus_memWrite2 a s.hl s).andThen_finish
  | lhld a => exact (stopsOnlyOnBus_memRead2 a s).andThen_finish
  | sta a => exact (stopsOnlyOnBus_memWrite1 a (s.reg .a) s).andThen_finish
  | lda a => exact (stopsOnlyOnBus_memRead1 a s).andThen_finish
  | inrM => exact stopsOnlyOnBus_countMem increment s
  | dcrM => exact stopsOnlyOnBus_countMem decrement s
  | mviM v => exact (stopsOnlyOnBus_memWrite1 s.hl v s).andThen_finish
  | ret => exact (stopsOnlyOnBus_returnFromStack s).andThen_finish
  | call w => exact stopsOnlyOnBus_callTo w s
  | outPort p => exact (stopsOnlyOnBus_portOut p (s.reg .a) s).andThen_finish
  | inPort p => exact (stopsOnlyOnBus_portIn p s).andThen_finish
  | xthl =>
    exact (stopsOnlyOnBus_memRead2 s.cpu.sp s).andThen fun _ _ =>
      (stopsOnlyOnBus_memWrite2 s.cpu.sp s.hl s).andThen_finish
  | pushPsw => exact (stopsOnlyOnBus_push16 (psw s) s).andThen_finish
  | popPsw => exact (stopsOnlyOnBus_pop16 s).andThen_finish
  | nop | rlc | rrc | ral | rar | daa | cma | stc | cmc | hlt | pchl | xchg | di | sphl | ei => exact .finish
  | jmp w => exact .finish
  | undocumented i hno => simp [hno] at hi

/-- Settles O57: the accesses of an instruction are all that can stop it. -/
theorem onlyUnservicedAccessesStop : Obligations.OnlyUnservicedAccessesStop := by
  unfold Obligations.OnlyUnservicedAccessesStop
  intro i s hi
  have stops := exec_stopsOnlyOnBus s hi
  exact ⟨stops, stops.completes⟩

end Sys2Proof.Safety
end

section
/-! PROOFS. The obligations of 70_reset_and_hazards.md: construction from an image (R420, R421) and the cycle counts
(R440). -/

namespace Sys2Proof.Safety

open Sys2Proof.Machine

/-! ## Construction (R420, R421, R384) -/

/-- Bytes written from `a` on, at most once around the address space: an address reads as the byte at its distance from
`a`, and as before when there is none. -/
theorem read_writeBytes {m : Memory} {a : Word} {bytes : List Byte} (hfits : bytes.length ≤ Config.memorySize)
    (x : Word) : (m.writeBytes a bytes).read x.toNat = bytes[(x - a).toNat]?.getD (m.read x.toNat) := by
  induction bytes generalizing m a with
  | nil => rfl
  | cons v rest ih =>
    rw [List.length_cons] at hfits
    simp only [Memory.writeBytes, ih (Nat.le_of_succ_le hfits), read_write, BitVec.toNat_inj]
    by_cases hx : x = a
    · have hlast : (x - (a + 1)).toNat = 65535 := by bv_omega
      have hfirst : (x - a).toNat = 0 := by bv_omega
      rw [hlast, hfirst, if_pos hx, List.getElem?_eq_none (Nat.le_of_succ_le_succ hfits)]
      rfl
    · have hnext : (x - a).toNat = (x - (a + 1)).toNat + 1 := by bv_omega
      rw [hnext, if_neg hx, List.getElem?_cons_succ]

theorem imageFits_iff (image : List Byte) : imageFits image = true ↔ image.length ≤ 65536 := decide_eq_true_iff

/-- Settles O18: the image is written into an empty memory, canonical and 0x00 everywhere. -/
theorem constructionPlacesTheImage : Obligations.ConstructionPlacesTheImage := by
  unfold Obligations.ConstructionPlacesTheImage
  refine fun image => ⟨fun hlarge => ?_, fun hfits => ?_⟩
  · exact if_neg (mt (imageFits_iff image).mp (by omega))
  · refine ⟨_, if_pos ((imageFits_iff image).mpr hfits), rfl, wf_writeBytes [] 0 image rfl, fun a => ?_⟩
    have hoffset : a - 0 = a := BitVec.sub_zero a
    rw [setMem_byteAt, read_writeBytes hfits, hoffset, List.getD_eq_getElem?_getD]
    rfl

/-! ## Cycle counts (R440) -/

/-- The cell of R440 for an opcode: cycles when the condition holds, and when it does not. -/
def cycleRow (op : Byte) : Nat × Nat := cycleTable.getD op.toNat (0, 0)

theorem tableCycles_eq (op : Byte) (f : Flags) :
    tableCycles op f = if conditionHolds op f then (cycleRow op).1 else (cycleRow op).2 := rfl

/-- A documented opcode has no `-` in R440, and both counts of its cell lie in 4..18. -/
theorem cycleRow_bounds : ∀ op, op ∉ undocumentedOpcodes →
    (4 ≤ (cycleRow op).1 ∧ (cycleRow op).1 ≤ 18) ∧ 4 ≤ (cycleRow op).2 ∧ (cycleRow op).2 ≤ 18 := by decide

theorem tableCycles_bounds {op : Byte} (f : Flags) (hop : op ∉ undocumentedOpcodes) :
    4 ≤ tableCycles op f ∧ tableCycles op f ≤ 18 := by
  obtain ⟨htaken, huntaken⟩ := cycleRow_bounds op hop
  rw [tableCycles_eq]
  split
  · exact htaken
  · exact huntaken

/-- A row of an undocumented byte is undocumented. -/
theorem documented_eq_false_of_opcodeOf_mem {i : Instr} (h : opcodeOf i ∈ undocumentedOpcodes) :
    i.documented = false := by
  have row := row_opcodeOf i
  generalize opcodeOf i = op at h row
  cases row with
  | plain _ _ _ decodes => exact decodes 0 0 ▸ decodeOpcode_undocumented h 0 0
  | byteOperand f _ _ decodes v => exact decodes v 0 ▸ decodeOpcode_undocumented h v 0
  | wordOperand f _ _ decodes w =>
    rw [← concat_high_low w, ← decodes]
    exact decodeOpcode_undocumented h _ _

/-- An instruction that completes has a documented opcode: the others stop (R381). -/
theorem opcodeOf_not_mem_of_exec {i : Instr} {s t : State} (h : exec i s = .next t) :
    opcodeOf i ∉ undocumentedOpcodes := by
  intro hop
  rw [exec_undocumented (documented_eq_false_of_opcodeOf_mem hop)] at h
  cases h

/-- A conditional call has the pair 17/11, and the condition in bits 5:3 is its own. -/
theorem tableCycles_callIf (code : Cond) (w : Word) (f : Flags) :
    tableCycles (opcodeOf (.callIf code w)) f = if testCond code f then 17 else 11 := by
  rw [opcodeOf_callIf]
  cases code <;> rfl

/-- A conditional return has the pair 11/5. -/
theorem tableCycles_retIf (code : Cond) (f : Flags) :
    tableCycles (opcodeOf (.retIf code)) f = if testCond code f then 11 else 5 := by
  cases code <;> rfl

/-- If `o` answers a next state, it returns `n` cycles. -/
def ReturnsCycles (n : Nat) (o : Host.Outcome State Fault Refusal) : Prop := ∀ t, o = .next t → t.result = .cycles n

section Returns

variable {α : Type} {n : Nat} {u : State} {o : Host.Outcome α Fault Refusal}

theorem ReturnsCycles.finish : ReturnsCycles n (finish n u) := by
  intro t h
  obtain rfl := finish_eq_next.mp h
  rfl

/-- An access before the end returns nothing. -/
theorem ReturnsCycles.andThen {f : α → Host.Outcome State Fault Refusal} (hf : ∀ x, ReturnsCycles n (f x)) :
    ReturnsCycles n (andThen o f) := by
  intro t h
  obtain ⟨x, -, h⟩ := andThen_eq_next.mp h
  exact hf x t h

/-- The access is the instruction's last. -/
theorem ReturnsCycles.andThen_finish {g : α → State} :
    ReturnsCycles n (Machine.andThen o fun x => Machine.finish n (g x)) :=
  .andThen fun _ => .finish

/-- A condition chooses the meaning and the count alike. -/
theorem ReturnsCycles.ite {c : Bool} {m : Nat} {taken untaken : Host.Outcome State Fault Refusal}
    (htaken : ReturnsCycles n taken) (huntaken : ReturnsCycles m untaken) :
    ReturnsCycles (if c then n else m) (if c then taken else untaken) := by
  cases c with
  | true => exact htaken
  | false => exact huntaken

/-- A cell of R440 with one count does not depend on the flags. -/
theorem ReturnsCycles.of_row {op : Byte} {f : Flags} {answer : Host.Outcome State Fault Refusal}
    (hanswer : ReturnsCycles n answer) (hrow : cycleRow op = (n, n)) : ReturnsCycles (tableCycles op f) answer := by
  rwa [tableCycles_eq, hrow, ite_self]

end Returns

/-- Every instruction that completes returns the count of its opcode on the flags before it. -/
theorem exec_returnsCycles (i : Instr) (s : State) :
    ReturnsCycles (tableCycles (opcodeOf i) s.cpu.flags) (exec i s) := by
  induction i using Instr.byFamily with
  | movRegReg dst src =>
    rw [exec_movRegReg]
    exact .of_row .finish (by cases dst <;> cases src <;> rfl)
  | movRegMem dst =>
    rw [exec_movRegMem]
    exact .of_row .andThen_finish (by cases dst <;> rfl)
  | movMemReg src =>
    rw [exec_movMemReg]
    exact .of_row .andThen_finish (by cases src <;> rfl)
  | mviReg dst v =>
    rw [exec_mviReg]
    exact .of_row .finish (by cases dst <;> rfl)
  | lxi p w =>
    rw [exec_lxi]
    exact .of_row .finish (by cases p <;> rfl)
  | ldax p =>
    rw [exec_ldax]
    exact .of_row .andThen_finish (by cases p <;> rfl)
  | stax p =>
    rw [exec_stax]
    exact .of_row .andThen_finish (by cases p <;> rfl)
  | aluReg op r =>
    rw [exec_aluReg]
    exact .of_row .finish (by cases op <;> cases r <;> rfl)
  | aluMem op =>
    rw [exec_aluMem]
    exact .of_row .andThen_finish (by cases op <;> rfl)
  | aluImm op v =>
    rw [exec_aluImm]
    exact .of_row .finish (by cases op <;> rfl)
  | inrReg r =>
    rw [exec_inrReg]
    exact .of_row .finish (by cases r <;> rfl)
  | dcrReg r =>
    rw [exec_dcrReg]
    exact .of_row .finish (by cases r <;> rfl)
  | inx p =>
    rw [exec_inx]
    exact .of_row .finish (by cases p <;> rfl)
  | dcx p =>
    rw [exec_dcx]
    exact .of_row .finish (by cases p <;> rfl)
  | dad p =>
    rw [exec_dad]
    exact .of_row .finish (by cases p <;> rfl)
  | push p =>
    rw [exec_push]
    exact .of_row .andThen_finish (by cases p <;> rfl)
  | pop p =>
    rw [exec_pop]
    exact .of_row .andThen_finish (by cases p <;> rfl)
  | jumpIf code w =>
    rw [exec_jumpIf, jumpIf]
    split
    · exact .of_row .finish (by cases code <;> rfl)
    · exact .of_row .finish (by cases code <;> rfl)
  | callIf code w =>
    rw [exec_callIf, callIf, tableCycles_callIf]
    exact .ite .andThen_finish .finish
  | retIf code =>
    rw [exec_retIf, retIf, tableCycles_retIf]
    exact .ite .andThen_finish .finish
  | rst n =>
    rw [exec_rst]
    match n with
    | 0#3 | 1#3 | 2#3 | 3#3 | 4#3 | 5#3 | 6#3 | 7#3 => exact .of_row .andThen_finish rfl
  | nop | rlc | rrc | ral | rar | daa | cma | stc | cmc | hlt | pchl | xchg | di | sphl | ei =>
    exact .of_row .finish rfl
  | jmp w => exact .of_row .finish rfl
  | shld a | lhld a | sta a | lda a | mviM v | call w | outPort p | inPort p => exact .of_row .andThen_finish rfl
  | ret | pushPsw | popPsw => exact .of_row .andThen_finish rfl
  | inrM | dcrM | xthl => exact .of_row (.andThen fun _ => .andThen_finish) rfl
  | undocumented i hi =>
    rw [exec_undocumented hi]
    intro t h
    cases h

/-- Settles O56: `exec_returnsCycles`, and the bounds of the documented cells. -/
theorem cycleCountsFollowTheTable : Obligations.CycleCountsFollowTheTable := by
  unfold Obligations.CycleCountsFollowTheTable
  intro i s t h
  exact ⟨exec_returnsCycles i s t h, tableCycles_bounds s.cpu.flags (opcodeOf_not_mem_of_exec h)⟩

end Sys2Proof.Safety
end
